-- ==== Sys2Proof/Word.lean ====
section
/-! DEFINITION. The two word types of the block: a field element (00_scope.md R6: "a GF(256) element is an 8-bit
unsigned value") and a 32-bit register, command or MMIO word (R20 to R31, R100). -/

namespace Sys2Proof

/-- A GF(256) element (R6, R140). -/
abbrev Byte := BitVec 8

/-- A 32-bit value: a scalar register, a command word, an index-list entry, an MMIO word (R70). -/
abbrev Word := BitVec 32

end Sys2Proof
end

