-- ==== Sys2Proof/Syntax.lean ====
section
/-! DEFINITION. The command set ORQ-CORE v1: one constructor per row of spec/opcode_table.json (30_encoding.md R108).
Register and slot operands are their 4-bit numbers (R104); the code fields of R106 are named alternatives, so the
machine never sees a raw code. -/

namespace Sys2Proof

/-- A scalar register number: `X0`..`X15` (R21, R104). -/
abbrev XReg := Fin 16

/-- A matrix slot number: `M0`..`M15` (R23, R104). -/
abbrev MSlot := Fin 16

/-- A byte-vector slot number: `V0`..`V15` (R24, R104). -/
abbrev VSlot := Fin 16

/-- An index-list slot number: `P0`..`P15` (R25, R104). -/
abbrev PSlot := Fin 16

/-- `#repr` (R106): what a command says of its result's representation. -/
inductive ReprCode where
  | inherit
  | denseRow
  | denseCol
  | sparse
  deriving DecidableEq, Repr

/-- `#init` (R106). -/
inductive InitCode where
  | zero
  | identity
  deriving DecidableEq, Repr

/-- `#pred` (R106, R282). -/
inductive PredCode where
  | zero
  | nonzero
  | one
  | identity
  | diagonal
  | upperTriangular
  | lowerTriangular
  | symmetric
  deriving DecidableEq, Repr

/-- `#flags` (R106, R304): which parts of a GE context are present. -/
structure GeFlags where
  hasD : Bool
  hasPR : Bool
  hasPC : Bool
  deriving DecidableEq, Repr

/-- A command (R108). The operands of a constructor stand in the field order A, B, C, D, E, G of its row. -/
inductive Instr where
  -- System and scalar-register commands (40_control.md)
  /-- `NOP` (R121). -/
  | nop
  /-- `SIGNAL` (R122). -/
  | signal
  /-- `XLI Xd, imm16` (R123). -/
  | xli (xd : XReg) (imm : BitVec 16)
  /-- `XLUI Xd, imm16` (R124). -/
  | xlui (xd : XReg) (imm : BitVec 16)
  /-- `XADDI Xd, Xs, simm16` (R125). -/
  | xaddi (xd : XReg) (xs : XReg) (imm : BitVec 16)
  /-- `XMOV Xd, Xs` (R126). -/
  | xmov (xd : XReg) (xs : XReg)
  /-- `XADD Xd, Xa, Xb` (R127). -/
  | xadd (xd : XReg) (xa : XReg) (xb : XReg)
  /-- `XSUB Xd, Xa, Xb` (R128). -/
  | xsub (xd : XReg) (xa : XReg) (xb : XReg)
  -- GF(256) commands (41_gf256.md)
  /-- `GADD Xd, Xa, Xb` (R150). -/
  | gadd (xd : XReg) (xa : XReg) (xb : XReg)
  /-- `GMUL Xd, Xa, Xb` (R151). -/
  | gmul (xd : XReg) (xa : XReg) (xb : XReg)
  /-- `GDIV Xd, Xa, Xb` (R152). -/
  | gdiv (xd : XReg) (xa : XReg) (xb : XReg)
  /-- `GINV Xd, Xa` (R153). -/
  | ginv (xd : XReg) (xa : XReg)
  /-- `GEXP Xd, Xa` (R154). -/
  | gexp (xd : XReg) (xa : XReg)
  /-- `GLOG Xd, Xa` (R155). -/
  | glog (xd : XReg) (xa : XReg)
  /-- `GPOW Xd, Xa, Xb` (R156). -/
  | gpow (xd : XReg) (xa : XReg) (xb : XReg)
  -- Byte-vector commands (42_vector.md)
  /-- `VALLOC Vd, Xn` (R164). -/
  | valloc (vd : VSlot) (xn : XReg)
  /-- `VFREE Vd` (R165). -/
  | vfree (vd : VSlot)
  /-- `VLEN Xd, Vs` (R166). -/
  | vlen (xd : XReg) (vs : VSlot)
  /-- `VGET Xd, Vs, Xi` (R167). -/
  | vget (xd : XReg) (vs : VSlot) (xi : XReg)
  /-- `VSET Vd, Xi, Xv` (R168). -/
  | vset (vd : VSlot) (xi : XReg) (xv : XReg)
  /-- `VCOPY Vd, Vs` (R169). -/
  | vcopy (vd : VSlot) (vs : VSlot)
  /-- `VFILL Vd, Xv` (R170). -/
  | vfill (vd : VSlot) (xv : XReg)
  /-- `VADD Vd, Va, Vb` (R171). -/
  | vadd (vd : VSlot) (va : VSlot) (vb : VSlot)
  /-- `VADDS Vd, Va, Xc` (R172). -/
  | vadds (vd : VSlot) (va : VSlot) (xc : XReg)
  /-- `VMULS Vd, Va, Xc` (R173). -/
  | vmuls (vd : VSlot) (va : VSlot) (xc : XReg)
  /-- `VDIVS Vd, Va, Xc` (R174). -/
  | vdivs (vd : VSlot) (va : VSlot) (xc : XReg)
  /-- `VHAD Vd, Va, Vb` (R175). -/
  | vhad (vd : VSlot) (va : VSlot) (vb : VSlot)
  /-- `VAXPY Vd, Va, Xc` (R176). -/
  | vaxpy (vd : VSlot) (va : VSlot) (xc : XReg)
  /-- `VDOT Xd, Va, Vb` (R177). -/
  | vdot (xd : XReg) (va : VSlot) (vb : VSlot)
  /-- `VSWP Vd, Xi, Xj` (R178). -/
  | vswp (vd : VSlot) (xi : XReg) (xj : XReg)
  /-- `VSLICE Vd, Va, Xlo, Xhi` (R179). -/
  | vslice (vd : VSlot) (va : VSlot) (xlo : XReg) (xhi : XReg)
  /-- `VNNZ Xd, Va, Xlo, Xhi` (R180). -/
  | vnnz (xd : XReg) (va : VSlot) (xlo : XReg) (xhi : XReg)
  /-- `VSEL Vd, Va, Pi` (R181). -/
  | vsel (vd : VSlot) (va : VSlot) (pi : PSlot)
  -- Index-list commands (43_index.md)
  /-- `PALLOC Pd, Xn` (R202). -/
  | palloc (pd : PSlot) (xn : XReg)
  /-- `PFREE Pd` (R203). -/
  | pfree (pd : PSlot)
  /-- `PLEN Xd, Ps` (R204). -/
  | plen (xd : XReg) (ps : PSlot)
  /-- `PGET Xd, Ps, Xi` (R205). -/
  | pget (xd : XReg) (ps : PSlot) (xi : XReg)
  /-- `PSET Pd, Xi, Xv` (R206). -/
  | pset (pd : PSlot) (xi : XReg) (xv : XReg)
  /-- `PSWP Pd, Xi, Xj` (R207). -/
  | pswp (pd : PSlot) (xi : XReg) (xj : XReg)
  /-- `PINV Pd, Ps` (R208). -/
  | pinv (pd : PSlot) (ps : PSlot)
  /-- `PCOPY Pd, Ps` (R209). -/
  | pcopy (pd : PSlot) (ps : PSlot)
  -- Matrix store commands (44_matrix_store.md)
  /-- `MALLOC Md, Xr, Xc, #repr, #init` (R225). -/
  | malloc (md : MSlot) (xr : XReg) (xc : XReg) (rep : ReprCode) (ini : InitCode)
  /-- `MFREE Md` (R226). -/
  | mfree (md : MSlot)
  /-- `MROWS Xd, Ms` (R227). -/
  | mrows (xd : XReg) (ms : MSlot)
  /-- `MCOLS Xd, Ms` (R228). -/
  | mcols (xd : XReg) (ms : MSlot)
  /-- `MREPR Xd, Ms` (R229). -/
  | mrepr (xd : XReg) (ms : MSlot)
  /-- `MGET Xd, Ms, Xr, Xc` (R230). -/
  | mget (xd : XReg) (ms : MSlot) (xr : XReg) (xc : XReg)
  /-- `MSET Md, Xr, Xc, Xv` (R231). -/
  | mset (md : MSlot) (xr : XReg) (xc : XReg) (xv : XReg)
  /-- `MGETR Vd, Ms, Xr` (R232). -/
  | mgetr (vd : VSlot) (ms : MSlot) (xr : XReg)
  /-- `MGETC Vd, Ms, Xc` (R233). -/
  | mgetc (vd : VSlot) (ms : MSlot) (xc : XReg)
  /-- `MSETR Md, Xr, Vs` (R234). -/
  | msetr (md : MSlot) (xr : XReg) (vs : VSlot)
  /-- `MSETC Md, Xc, Vs` (R235). -/
  | msetc (md : MSlot) (xc : XReg) (vs : VSlot)
  /-- `MCOPY Md, Ms, #repr` (R236). -/
  | mcopy (md : MSlot) (ms : MSlot) (rep : ReprCode)
  /-- `MSWPR Md, Xi, Xj` (R237). -/
  | mswpr (md : MSlot) (xi : XReg) (xj : XReg)
  /-- `MSWPC Md, Xi, Xj` (R238). -/
  | mswpc (md : MSlot) (xi : XReg) (xj : XReg)
  /-- `MTRN Md, Ms, #repr` (R239). -/
  | mtrn (md : MSlot) (ms : MSlot) (rep : ReprCode)
  /-- `MROT Md, Ms, #repr` (R240). -/
  | mrot (md : MSlot) (ms : MSlot) (rep : ReprCode)
  /-- `MSLICE Md, Ms, Xr0, Xc0, Xr1, Xc1` (R241). -/
  | mslice (md : MSlot) (ms : MSlot) (xr0 : XReg) (xc0 : XReg) (xr1 : XReg) (xc1 : XReg)
  /-- `MSLTL Md, Ms, Xr1, Xc1` (R242). -/
  | msltl (md : MSlot) (ms : MSlot) (xr1 : XReg) (xc1 : XReg)
  /-- `MSLBR Md, Ms, Xr0, Xc0` (R243). -/
  | mslbr (md : MSlot) (ms : MSlot) (xr0 : XReg) (xc0 : XReg)
  /-- `MSEL Md, Ms, Pr, Pc` (R244). -/
  | msel (md : MSlot) (ms : MSlot) (pr : PSlot) (pc : PSlot)
  /-- `MSELR Md, Ms, Pr` (R245). -/
  | mselr (md : MSlot) (ms : MSlot) (pr : PSlot)
  /-- `MSELC Md, Ms, Pc` (R246). -/
  | mselc (md : MSlot) (ms : MSlot) (pc : PSlot)
  /-- `MNNZ Xd, Ms, Xr0, Xc0, Xr1, Xc1` (R247). -/
  | mnnz (xd : XReg) (ms : MSlot) (xr0 : XReg) (xc0 : XReg) (xr1 : XReg) (xc1 : XReg)
  -- Matrix arithmetic commands (45_matrix_arith.md)
  /-- `MADD Md, Ma, Mb, #repr` (R263). -/
  | madd (md : MSlot) (ma : MSlot) (mb : MSlot) (rep : ReprCode)
  /-- `MADDS Md, Ma, Xc, #repr` (R264). -/
  | madds (md : MSlot) (ma : MSlot) (xc : XReg) (rep : ReprCode)
  /-- `MMULS Md, Ma, Xc, #repr` (R265). -/
  | mmuls (md : MSlot) (ma : MSlot) (xc : XReg) (rep : ReprCode)
  /-- `MDIVS Md, Ma, Xc, #repr` (R266). -/
  | mdivs (md : MSlot) (ma : MSlot) (xc : XReg) (rep : ReprCode)
  /-- `MMUL Md, Ma, Mb, #repr` (R267). -/
  | mmul (md : MSlot) (ma : MSlot) (mb : MSlot) (rep : ReprCode)
  /-- `MHAD Md, Ma, Mb, #repr` (R268). -/
  | mhad (md : MSlot) (ma : MSlot) (mb : MSlot) (rep : ReprCode)
  /-- `MPOW Md, Ma, Xn, #repr` (R269). -/
  | mpow (md : MSlot) (ma : MSlot) (xn : XReg) (rep : ReprCode)
  /-- `MMULV Vd, Ma, Vb` (R270). -/
  | mmulv (vd : VSlot) (ma : MSlot) (vb : VSlot)
  /-- `VMULM Vd, Va, Mb` (R271). -/
  | vmulm (vd : VSlot) (va : VSlot) (mb : MSlot)
  /-- `MUSET Md, Xc, Xr0, Xc0, Xr1, Xc1` (R272). -/
  | muset (md : MSlot) (xc : XReg) (xr0 : XReg) (xc0 : XReg) (xr1 : XReg) (xc1 : XReg)
  /-- `MUXOR Md, Xc, Xr0, Xc0, Xr1, Xc1` (R273). -/
  | muxor (md : MSlot) (xc : XReg) (xr0 : XReg) (xc0 : XReg) (xr1 : XReg) (xc1 : XReg)
  /-- `MUMUL Md, Xc, Xr0, Xc0, Xr1, Xc1` (R274). -/
  | mumul (md : MSlot) (xc : XReg) (xr0 : XReg) (xc0 : XReg) (xr1 : XReg) (xc1 : XReg)
  /-- `MUSETNZ Md, Xc, Xr0, Xc0, Xr1, Xc1` (R275). -/
  | musetnz (md : MSlot) (xc : XReg) (xr0 : XReg) (xc0 : XReg) (xr1 : XReg) (xc1 : XReg)
  /-- `MUXORNZ Md, Xc, Xr0, Xc0, Xr1, Xc1` (R276). -/
  | muxornz (md : MSlot) (xc : XReg) (xr0 : XReg) (xc0 : XReg) (xr1 : XReg) (xc1 : XReg)
  /-- `MUMULNZ Md, Xc, Xr0, Xc0, Xr1, Xc1` (R277). -/
  | mumulnz (md : MSlot) (xc : XReg) (xr0 : XReg) (xc0 : XReg) (xr1 : XReg) (xc1 : XReg)
  /-- `MFSUM Xd, Ms, Xr0, Xc0, Xr1, Xc1` (R278). -/
  | mfsum (xd : XReg) (ms : MSlot) (xr0 : XReg) (xc0 : XReg) (xr1 : XReg) (xc1 : XReg)
  /-- `MFPROD Xd, Ms, Xr0, Xc0, Xr1, Xc1` (R279). -/
  | mfprod (xd : XReg) (ms : MSlot) (xr0 : XReg) (xc0 : XReg) (xr1 : XReg) (xc1 : XReg)
  /-- `MIS Xd, Ms, #pred` (R280). -/
  | mis (xd : XReg) (ms : MSlot) (prd : PredCode)
  /-- `MNON Xd, Ms, #pred` (R281). -/
  | mnon (xd : XReg) (ms : MSlot) (prd : PredCode)
  -- Gaussian-elimination commands (46_gauss.md)
  /-- `GECFG Ma, Md, Pr, Pc, #flags` (R304). -/
  | gecfg (ma : MSlot) (md : MSlot) (pr : PSlot) (pc : PSlot) (fl : GeFlags)
  /-- `GESWPR Xi, Xj` (R305). -/
  | geswpr (xi : XReg) (xj : XReg)
  /-- `GESWPC Xi, Xj` (R306). -/
  | geswpc (xi : XReg) (xj : XReg)
  /-- `GESCL Xr, Xb` (R307). -/
  | gescl (xr : XReg) (xb : XReg)
  /-- `GEAXPY Xi, Xr, Xb` (R308). -/
  | geaxpy (xi : XReg) (xr : XReg) (xb : XReg)
  /-- `GENORM Xr, Xc` (R309). -/
  | genorm (xr : XReg) (xc : XReg)
  /-- `GEELIM Xr, Xc, Xlo, Xhi` (R310). -/
  | geelim (xr : XReg) (xc : XReg) (xlo : XReg) (xhi : XReg)
  /-- `GEPIVF Xd, Xc, Xlo, Xhi` (R311). -/
  | gepivf (xd : XReg) (xc : XReg) (xlo : XReg) (xhi : XReg)
  /-- `GEPIVM Xd, Xr0, Xc0, Xr1, Xc1` (R312). -/
  | gepivm (xd : XReg) (xr0 : XReg) (xc0 : XReg) (xr1 : XReg) (xc1 : XReg)
  /-- `GERREF Xd` (R313). -/
  | gerref (xd : XReg)
  -- Solver commands (47_solver.md)
  /-- `SVINIT Xl, Xt` (R340). -/
  | svinit (xl : XReg) (xt : XReg)
  /-- `SVADDR Vr, Vs` (R341). -/
  | svaddr (vr : VSlot) (vs : VSlot)
  /-- `SVADDM Ma, Md` (R342). -/
  | svaddm (ma : MSlot) (md : MSlot)
  /-- `SVRUN` (R343). -/
  | svrun
  /-- `SVRES Md` (R350). -/
  | svres (md : MSlot)
  /-- `SVSTAT Xd` (R351). -/
  | svstat (xd : XReg)
  /-- `SVROWS Xd` (R352). -/
  | svrows (xd : XReg)
  /-- `SVABORT` (R353). -/
  | svabort
  deriving DecidableEq, Repr

end Sys2Proof
end

