-- ==== Sys2Proof/WellFormed.lean ====
section
/-! DEFINITION. Which terms of Instr are commands. Register numbers, slot numbers and codes are in range by type; the
one check left is `GECFG`'s: a part whose flag is clear names slot 0 (46_gauss.md R304, 30_encoding.md R109). -/

namespace Sys2Proof

/-- R304: "(hasD == 0 and B != 0) or (hasPR == 0 and C != 0) or (hasPC == 0 and D != 0)" is illegal. -/
def gecfgFieldsOk (b c d : Fin 16) (fl : GeFlags) : Bool :=
  (fl.hasD || b == 0) && (fl.hasPR || c == 0) && (fl.hasPC || d == 0)

/-- Whether a term is a command that some word encodes. -/
def Instr.wellFormed : Instr → Bool
  | .gecfg _ md pr pc fl => gecfgFieldsOk md pr pc fl
  | _ => true

end Sys2Proof
end

