-- ==== Sys2Proof/Decode.lean ====
section
/-! DEFINITION. The decoder (30_encoding.md R111) and, after it, the encoder. The decoder is total on 32-bit words
and rejects by name; every rejection is R109's `IllegalCommand`. Both are written from R100 to R108. -/

namespace Sys2Proof

/-- Why a word is no command (R109). -/
inductive IllegalWord where
  /-- The opcode is not in R108. -/
  | unassignedOpcode
  /-- A reserved field is not 0 (R103). -/
  | reservedField
  /-- A code field holds an illegal value (R106). -/
  | illegalCode
  /-- `GECFG` names a slot in a field whose flag is clear (R304). -/
  | flagField
  deriving DecidableEq, Repr

/-- The fields of a word, both formats at once (R101, R102). -/
structure Fields where
  op : Nat
  a : Fin 16
  b : Fin 16
  c : Fin 16
  d : Fin 16
  e : Fin 16
  g : Fin 16
  imm : BitVec 16
  deriving DecidableEq, Repr

/-- The 4-bit field whose lowest bit is bit `lo` (R101). -/
def nibble (w : Word) (lo : Nat) : Fin 16 := Fin.ofNat 16 (w.toNat / 2 ^ lo)

/-- `OP` is bits [31:24], A..G follow downwards, `IMM` is bits [15:0] (R100 to R102). -/
def fieldsOf (w : Word) : Fields :=
  { op := w.toNat / 2 ^ 24, a := nibble w 20, b := nibble w 16, c := nibble w 12, d := nibble w 8,
    e := nibble w 4, g := nibble w 0, imm := BitVec.ofNat 16 w.toNat }

/-- `#repr`: 4..15 illegal (R106). -/
def decodeRepr (n : Fin 16) : Option ReprCode :=
  match n.val with
  | 0 => some .inherit
  | 1 => some .denseRow
  | 2 => some .denseCol
  | 3 => some .sparse
  | _ => none

/-- `#init`: 2..15 illegal (R106). -/
def decodeInit (n : Fin 16) : Option InitCode :=
  match n.val with
  | 0 => some .zero
  | 1 => some .identity
  | _ => none

/-- `#pred`: 8..15 illegal (R106). -/
def decodePred (n : Fin 16) : Option PredCode :=
  match n.val with
  | 0 => some .zero
  | 1 => some .nonzero
  | 2 => some .one
  | 3 => some .identity
  | 4 => some .diagonal
  | 5 => some .upperTriangular
  | 6 => some .lowerTriangular
  | 7 => some .symmetric
  | _ => none

/-- `#flags`: bit 0 `HASD`, bit 1 `HASPR`, bit 2 `HASPC`, bit 3 must be 0 (R106, R304). -/
def decodeFlags (n : Fin 16) : Option GeFlags :=
  if n.val < 8 then some ⟨n.val.testBit 0, n.val.testBit 1, n.val.testBit 2⟩ else none

/-- Reserved fields must hold 0 (R103). -/
def reservedZero (zs : List (Fin 16)) (k : Except IllegalWord Instr) : Except IllegalWord Instr :=
  if zs.all (fun z => z == 0) then k else .error .reservedField

/-- A code field must hold a legal value (R106). -/
def legalCode {α : Type} (c : Option α) (k : α → Except IllegalWord Instr) : Except IllegalWord Instr :=
  match c with
  | some v => k v
  | none => .error .illegalCode

/-- `GECFG`'s flag and field check (R304, R111). -/
def flagFieldsClear (fl : GeFlags) (b c d : Fin 16) (k : Except IllegalWord Instr) : Except IllegalWord Instr :=
  if gecfgFieldsOk b c d fl then k else .error .flagField

/-- R111 on the fields of a word; the arms are the rows of R108. -/
def decodeFields (f : Fields) : Except IllegalWord Instr :=
  match f.op with
  | 0x00 => reservedZero [f.a, f.b, f.c, f.d, f.e, f.g] (.ok .nop)
  | 0x01 => reservedZero [f.a, f.b, f.c, f.d, f.e, f.g] (.ok .signal)
  | 0x08 => reservedZero [f.b] (.ok (.xli f.a f.imm))
  | 0x09 => reservedZero [f.b] (.ok (.xlui f.a f.imm))
  | 0x0A => .ok (.xaddi f.a f.b f.imm)
  | 0x0B => reservedZero [f.c, f.d, f.e, f.g] (.ok (.xmov f.a f.b))
  | 0x0C => reservedZero [f.d, f.e, f.g] (.ok (.xadd f.a f.b f.c))
  | 0x0D => reservedZero [f.d, f.e, f.g] (.ok (.xsub f.a f.b f.c))
  | 0x10 => reservedZero [f.d, f.e, f.g] (.ok (.gadd f.a f.b f.c))
  | 0x11 => reservedZero [f.d, f.e, f.g] (.ok (.gmul f.a f.b f.c))
  | 0x12 => reservedZero [f.d, f.e, f.g] (.ok (.gdiv f.a f.b f.c))
  | 0x13 => reservedZero [f.c, f.d, f.e, f.g] (.ok (.ginv f.a f.b))
  | 0x14 => reservedZero [f.c, f.d, f.e, f.g] (.ok (.gexp f.a f.b))
  | 0x15 => reservedZero [f.c, f.d, f.e, f.g] (.ok (.glog f.a f.b))
  | 0x16 => reservedZero [f.d, f.e, f.g] (.ok (.gpow f.a f.b f.c))
  | 0x20 => reservedZero [f.c, f.d, f.e, f.g] (.ok (.valloc f.a f.b))
  | 0x21 => reservedZero [f.b, f.c, f.d, f.e, f.g] (.ok (.vfree f.a))
  | 0x22 => reservedZero [f.c, f.d, f.e, f.g] (.ok (.vlen f.a f.b))
  | 0x23 => reservedZero [f.d, f.e, f.g] (.ok (.vget f.a f.b f.c))
  | 0x24 => reservedZero [f.d, f.e, f.g] (.ok (.vset f.a f.b f.c))
  | 0x25 => reservedZero [f.c, f.d, f.e, f.g] (.ok (.vcopy f.a f.b))
  | 0x26 => reservedZero [f.c, f.d, f.e, f.g] (.ok (.vfill f.a f.b))
  | 0x27 => reservedZero [f.d, f.e, f.g] (.ok (.vadd f.a f.b f.c))
  | 0x28 => reservedZero [f.d, f.e, f.g] (.ok (.vadds f.a f.b f.c))
  | 0x29 => reservedZero [f.d, f.e, f.g] (.ok (.vmuls f.a f.b f.c))
  | 0x2A => reservedZero [f.d, f.e, f.g] (.ok (.vdivs f.a f.b f.c))
  | 0x2B => reservedZero [f.d, f.e, f.g] (.ok (.vhad f.a f.b f.c))
  | 0x2C => reservedZero [f.d, f.e, f.g] (.ok (.vaxpy f.a f.b f.c))
  | 0x2D => reservedZero [f.d, f.e, f.g] (.ok (.vdot f.a f.b f.c))
  | 0x2E => reservedZero [f.d, f.e, f.g] (.ok (.vswp f.a f.b f.c))
  | 0x2F => reservedZero [f.e, f.g] (.ok (.vslice f.a f.b f.c f.d))
  | 0x30 => reservedZero [f.e, f.g] (.ok (.vnnz f.a f.b f.c f.d))
  | 0x31 => reservedZero [f.d, f.e, f.g] (.ok (.vsel f.a f.b f.c))
  | 0x38 => reservedZero [f.c, f.d, f.e, f.g] (.ok (.palloc f.a f.b))
  | 0x39 => reservedZero [f.b, f.c, f.d, f.e, f.g] (.ok (.pfree f.a))
  | 0x3A => reservedZero [f.c, f.d, f.e, f.g] (.ok (.plen f.a f.b))
  | 0x3B => reservedZero [f.d, f.e, f.g] (.ok (.pget f.a f.b f.c))
  | 0x3C => reservedZero [f.d, f.e, f.g] (.ok (.pset f.a f.b f.c))
  | 0x3D => reservedZero [f.d, f.e, f.g] (.ok (.pswp f.a f.b f.c))
  | 0x3E => reservedZero [f.c, f.d, f.e, f.g] (.ok (.pinv f.a f.b))
  | 0x3F => reservedZero [f.c, f.d, f.e, f.g] (.ok (.pcopy f.a f.b))
  | 0x40 => reservedZero [f.d] (legalCode (decodeRepr f.e) fun rep => legalCode (decodeInit f.g) fun ini => .ok (.malloc f.a f.b f.c rep ini))
  | 0x41 => reservedZero [f.b, f.c, f.d, f.e, f.g] (.ok (.mfree f.a))
  | 0x42 => reservedZero [f.c, f.d, f.e, f.g] (.ok (.mrows f.a f.b))
  | 0x43 => reservedZero [f.c, f.d, f.e, f.g] (.ok (.mcols f.a f.b))
  | 0x44 => reservedZero [f.c, f.d, f.e, f.g] (.ok (.mrepr f.a f.b))
  | 0x45 => reservedZero [f.e, f.g] (.ok (.mget f.a f.b f.c f.d))
  | 0x46 => reservedZero [f.e, f.g] (.ok (.mset f.a f.b f.c f.d))
  | 0x47 => reservedZero [f.d, f.e, f.g] (.ok (.mgetr f.a f.b f.c))
  | 0x48 => reservedZero [f.d, f.e, f.g] (.ok (.mgetc f.a f.b f.c))
  | 0x49 => reservedZero [f.d, f.e, f.g] (.ok (.msetr f.a f.b f.c))
  | 0x4A => reservedZero [f.d, f.e, f.g] (.ok (.msetc f.a f.b f.c))
  | 0x4B => reservedZero [f.c, f.d, f.g] (legalCode (decodeRepr f.e) fun rep => .ok (.mcopy f.a f.b rep))
  | 0x4C => reservedZero [f.d, f.e, f.g] (.ok (.mswpr f.a f.b f.c))
  | 0x4D => reservedZero [f.d, f.e, f.g] (.ok (.mswpc f.a f.b f.c))
  | 0x4E => reservedZero [f.c, f.d, f.g] (legalCode (decodeRepr f.e) fun rep => .ok (.mtrn f.a f.b rep))
  | 0x4F => reservedZero [f.c, f.d, f.g] (legalCode (decodeRepr f.e) fun rep => .ok (.mrot f.a f.b rep))
  | 0x50 => .ok (.mslice f.a f.b f.c f.d f.e f.g)
  | 0x51 => reservedZero [f.e, f.g] (.ok (.msltl f.a f.b f.c f.d))
  | 0x52 => reservedZero [f.e, f.g] (.ok (.mslbr f.a f.b f.c f.d))
  | 0x53 => reservedZero [f.e, f.g] (.ok (.msel f.a f.b f.c f.d))
  | 0x54 => reservedZero [f.d, f.e, f.g] (.ok (.mselr f.a f.b f.c))
  | 0x55 => reservedZero [f.d, f.e, f.g] (.ok (.mselc f.a f.b f.c))
  | 0x56 => .ok (.mnnz f.a f.b f.c f.d f.e f.g)
  | 0x60 => reservedZero [f.d, f.g] (legalCode (decodeRepr f.e) fun rep => .ok (.madd f.a f.b f.c rep))
  | 0x61 => reservedZero [f.d, f.g] (legalCode (decodeRepr f.e) fun rep => .ok (.madds f.a f.b f.c rep))
  | 0x62 => reservedZero [f.d, f.g] (legalCode (decodeRepr f.e) fun rep => .ok (.mmuls f.a f.b f.c rep))
  | 0x63 => reservedZero [f.d, f.g] (legalCode (decodeRepr f.e) fun rep => .ok (.mdivs f.a f.b f.c rep))
  | 0x64 => reservedZero [f.d, f.g] (legalCode (decodeRepr f.e) fun rep => .ok (.mmul f.a f.b f.c rep))
  | 0x65 => reservedZero [f.d, f.g] (legalCode (decodeRepr f.e) fun rep => .ok (.mhad f.a f.b f.c rep))
  | 0x66 => reservedZero [f.d, f.g] (legalCode (decodeRepr f.e) fun rep => .ok (.mpow f.a f.b f.c rep))
  | 0x67 => reservedZero [f.d, f.e, f.g] (.ok (.mmulv f.a f.b f.c))
  | 0x68 => reservedZero [f.d, f.e, f.g] (.ok (.vmulm f.a f.b f.c))
  | 0x69 => .ok (.muset f.a f.b f.c f.d f.e f.g)
  | 0x6A => .ok (.muxor f.a f.b f.c f.d f.e f.g)
  | 0x6B => .ok (.mumul f.a f.b f.c f.d f.e f.g)
  | 0x6C => .ok (.musetnz f.a f.b f.c f.d f.e f.g)
  | 0x6D => .ok (.muxornz f.a f.b f.c f.d f.e f.g)
  | 0x6E => .ok (.mumulnz f.a f.b f.c f.d f.e f.g)
  | 0x6F => .ok (.mfsum f.a f.b f.c f.d f.e f.g)
  | 0x70 => .ok (.mfprod f.a f.b f.c f.d f.e f.g)
  | 0x71 => reservedZero [f.c, f.d, f.e] (legalCode (decodePred f.g) fun prd => .ok (.mis f.a f.b prd))
  | 0x72 => reservedZero [f.c, f.d, f.e] (legalCode (decodePred f.g) fun prd => .ok (.mnon f.a f.b prd))
  | 0x80 => reservedZero [f.g] (legalCode (decodeFlags f.e) fun fl => flagFieldsClear fl f.b f.c f.d (.ok (.gecfg f.a f.b f.c f.d fl)))
  | 0x81 => reservedZero [f.c, f.d, f.e, f.g] (.ok (.geswpr f.a f.b))
  | 0x82 => reservedZero [f.c, f.d, f.e, f.g] (.ok (.geswpc f.a f.b))
  | 0x83 => reservedZero [f.c, f.d, f.e, f.g] (.ok (.gescl f.a f.b))
  | 0x84 => reservedZero [f.d, f.e, f.g] (.ok (.geaxpy f.a f.b f.c))
  | 0x85 => reservedZero [f.c, f.d, f.e, f.g] (.ok (.genorm f.a f.b))
  | 0x86 => reservedZero [f.e, f.g] (.ok (.geelim f.a f.b f.c f.d))
  | 0x87 => reservedZero [f.e, f.g] (.ok (.gepivf f.a f.b f.c f.d))
  | 0x88 => reservedZero [f.g] (.ok (.gepivm f.a f.b f.c f.d f.e))
  | 0x89 => reservedZero [f.b, f.c, f.d, f.e, f.g] (.ok (.gerref f.a))
  | 0x90 => reservedZero [f.c, f.d, f.e, f.g] (.ok (.svinit f.a f.b))
  | 0x91 => reservedZero [f.c, f.d, f.e, f.g] (.ok (.svaddr f.a f.b))
  | 0x92 => reservedZero [f.c, f.d, f.e, f.g] (.ok (.svaddm f.a f.b))
  | 0x93 => reservedZero [f.a, f.b, f.c, f.d, f.e, f.g] (.ok .svrun)
  | 0x94 => reservedZero [f.b, f.c, f.d, f.e, f.g] (.ok (.svres f.a))
  | 0x95 => reservedZero [f.b, f.c, f.d, f.e, f.g] (.ok (.svstat f.a))
  | 0x96 => reservedZero [f.b, f.c, f.d, f.e, f.g] (.ok (.svrows f.a))
  | 0x97 => reservedZero [f.a, f.b, f.c, f.d, f.e, f.g] (.ok .svabort)
  | _ => .error .unassignedOpcode

/-- R111: the command a word is, or why it is none. -/
def decode (w : Word) : Except IllegalWord Instr := decodeFields (fieldsOf w)

/-- The instruction the decoder reads from the low `nbits` bits of `w`. A word moves as one 32-bit value with bit 0
least significant (R70, D48), so the table's bit numbers are the word's own. -/
def decodeTableWord (nbits w : Nat) : Option Instr :=
  match decode (BitVec.ofNat 32 (w % 2 ^ nbits)) with
  | .ok i => some i
  | .error _ => none

/-- The value of `#repr` (R106). -/
def ReprCode.code : ReprCode → Fin 16
  | .inherit => 0
  | .denseRow => 1
  | .denseCol => 2
  | .sparse => 3

/-- The value of `#init` (R106). -/
def InitCode.code : InitCode → Fin 16
  | .zero => 0
  | .identity => 1

/-- The value of `#pred` (R106). -/
def PredCode.code : PredCode → Fin 16
  | .zero => 0
  | .nonzero => 1
  | .one => 2
  | .identity => 3
  | .diagonal => 4
  | .upperTriangular => 5
  | .lowerTriangular => 6
  | .symmetric => 7

/-- The value of `#flags` (R106, R304). -/
def GeFlags.code (fl : GeFlags) : Fin 16 :=
  Fin.ofNat 16 (fl.hasD.toNat + 2 * fl.hasPR.toNat + 4 * fl.hasPC.toNat)

/-- Format R (R101). -/
def packR (op : Nat) (a b c d e g : Fin 16) : Word :=
  BitVec.ofNat 32 (op * 2 ^ 24 + a.val * 2 ^ 20 + b.val * 2 ^ 16 + c.val * 2 ^ 12 + d.val * 2 ^ 8 + e.val * 2 ^ 4 +
    g.val)

/-- Format I (R102). -/
def packI (op : Nat) (a b : Fin 16) (imm : BitVec 16) : Word :=
  BitVec.ofNat 32 (op * 2 ^ 24 + a.val * 2 ^ 20 + b.val * 2 ^ 16 + imm.toNat)

/-- The word of a command: its operands in the fields R108 names and 0 in every other field (R112). -/
def encode (i : Instr) : Word :=
  match i with
  | .nop => packR 0x00 0 0 0 0 0 0
  | .signal => packR 0x01 0 0 0 0 0 0
  | .xli xd imm => packI 0x08 xd 0 imm
  | .xlui xd imm => packI 0x09 xd 0 imm
  | .xaddi xd xs imm => packI 0x0A xd xs imm
  | .xmov xd xs => packR 0x0B xd xs 0 0 0 0
  | .xadd xd xa xb => packR 0x0C xd xa xb 0 0 0
  | .xsub xd xa xb => packR 0x0D xd xa xb 0 0 0
  | .gadd xd xa xb => packR 0x10 xd xa xb 0 0 0
  | .gmul xd xa xb => packR 0x11 xd xa xb 0 0 0
  | .gdiv xd xa xb => packR 0x12 xd xa xb 0 0 0
  | .ginv xd xa => packR 0x13 xd xa 0 0 0 0
  | .gexp xd xa => packR 0x14 xd xa 0 0 0 0
  | .glog xd xa => packR 0x15 xd xa 0 0 0 0
  | .gpow xd xa xb => packR 0x16 xd xa xb 0 0 0
  | .valloc vd xn => packR 0x20 vd xn 0 0 0 0
  | .vfree vd => packR 0x21 vd 0 0 0 0 0
  | .vlen xd vs => packR 0x22 xd vs 0 0 0 0
  | .vget xd vs xi => packR 0x23 xd vs xi 0 0 0
  | .vset vd xi xv => packR 0x24 vd xi xv 0 0 0
  | .vcopy vd vs => packR 0x25 vd vs 0 0 0 0
  | .vfill vd xv => packR 0x26 vd xv 0 0 0 0
  | .vadd vd va vb => packR 0x27 vd va vb 0 0 0
  | .vadds vd va xc => packR 0x28 vd va xc 0 0 0
  | .vmuls vd va xc => packR 0x29 vd va xc 0 0 0
  | .vdivs vd va xc => packR 0x2A vd va xc 0 0 0
  | .vhad vd va vb => packR 0x2B vd va vb 0 0 0
  | .vaxpy vd va xc => packR 0x2C vd va xc 0 0 0
  | .vdot xd va vb => packR 0x2D xd va vb 0 0 0
  | .vswp vd xi xj => packR 0x2E vd xi xj 0 0 0
  | .vslice vd va xlo xhi => packR 0x2F vd va xlo xhi 0 0
  | .vnnz xd va xlo xhi => packR 0x30 xd va xlo xhi 0 0
  | .vsel vd va pi => packR 0x31 vd va pi 0 0 0
  | .palloc pd xn => packR 0x38 pd xn 0 0 0 0
  | .pfree pd => packR 0x39 pd 0 0 0 0 0
  | .plen xd ps => packR 0x3A xd ps 0 0 0 0
  | .pget xd ps xi => packR 0x3B xd ps xi 0 0 0
  | .pset pd xi xv => packR 0x3C pd xi xv 0 0 0
  | .pswp pd xi xj => packR 0x3D pd xi xj 0 0 0
  | .pinv pd ps => packR 0x3E pd ps 0 0 0 0
  | .pcopy pd ps => packR 0x3F pd ps 0 0 0 0
  | .malloc md xr xc rep ini => packR 0x40 md xr xc 0 rep.code ini.code
  | .mfree md => packR 0x41 md 0 0 0 0 0
  | .mrows xd ms => packR 0x42 xd ms 0 0 0 0
  | .mcols xd ms => packR 0x43 xd ms 0 0 0 0
  | .mrepr xd ms => packR 0x44 xd ms 0 0 0 0
  | .mget xd ms xr xc => packR 0x45 xd ms xr xc 0 0
  | .mset md xr xc xv => packR 0x46 md xr xc xv 0 0
  | .mgetr vd ms xr => packR 0x47 vd ms xr 0 0 0
  | .mgetc vd ms xc => packR 0x48 vd ms xc 0 0 0
  | .msetr md xr vs => packR 0x49 md xr vs 0 0 0
  | .msetc md xc vs => packR 0x4A md xc vs 0 0 0
  | .mcopy md ms rep => packR 0x4B md ms 0 0 rep.code 0
  | .mswpr md xi xj => packR 0x4C md xi xj 0 0 0
  | .mswpc md xi xj => packR 0x4D md xi xj 0 0 0
  | .mtrn md ms rep => packR 0x4E md ms 0 0 rep.code 0
  | .mrot md ms rep => packR 0x4F md ms 0 0 rep.code 0
  | .mslice md ms xr0 xc0 xr1 xc1 => packR 0x50 md ms xr0 xc0 xr1 xc1
  | .msltl md ms xr1 xc1 => packR 0x51 md ms xr1 xc1 0 0
  | .mslbr md ms xr0 xc0 => packR 0x52 md ms xr0 xc0 0 0
  | .msel md ms pr pc => packR 0x53 md ms pr pc 0 0
  | .mselr md ms pr => packR 0x54 md ms pr 0 0 0
  | .mselc md ms pc => packR 0x55 md ms pc 0 0 0
  | .mnnz xd ms xr0 xc0 xr1 xc1 => packR 0x56 xd ms xr0 xc0 xr1 xc1
  | .madd md ma mb rep => packR 0x60 md ma mb 0 rep.code 0
  | .madds md ma xc rep => packR 0x61 md ma xc 0 rep.code 0
  | .mmuls md ma xc rep => packR 0x62 md ma xc 0 rep.code 0
  | .mdivs md ma xc rep => packR 0x63 md ma xc 0 rep.code 0
  | .mmul md ma mb rep => packR 0x64 md ma mb 0 rep.code 0
  | .mhad md ma mb rep => packR 0x65 md ma mb 0 rep.code 0
  | .mpow md ma xn rep => packR 0x66 md ma xn 0 rep.code 0
  | .mmulv vd ma vb => packR 0x67 vd ma vb 0 0 0
  | .vmulm vd va mb => packR 0x68 vd va mb 0 0 0
  | .muset md xc xr0 xc0 xr1 xc1 => packR 0x69 md xc xr0 xc0 xr1 xc1
  | .muxor md xc xr0 xc0 xr1 xc1 => packR 0x6A md xc xr0 xc0 xr1 xc1
  | .mumul md xc xr0 xc0 xr1 xc1 => packR 0x6B md xc xr0 xc0 xr1 xc1
  | .musetnz md xc xr0 xc0 xr1 xc1 => packR 0x6C md xc xr0 xc0 xr1 xc1
  | .muxornz md xc xr0 xc0 xr1 xc1 => packR 0x6D md xc xr0 xc0 xr1 xc1
  | .mumulnz md xc xr0 xc0 xr1 xc1 => packR 0x6E md xc xr0 xc0 xr1 xc1
  | .mfsum xd ms xr0 xc0 xr1 xc1 => packR 0x6F xd ms xr0 xc0 xr1 xc1
  | .mfprod xd ms xr0 xc0 xr1 xc1 => packR 0x70 xd ms xr0 xc0 xr1 xc1
  | .mis xd ms prd => packR 0x71 xd ms 0 0 0 prd.code
  | .mnon xd ms prd => packR 0x72 xd ms 0 0 0 prd.code
  | .gecfg ma md pr pc fl => packR 0x80 ma md pr pc fl.code 0
  | .geswpr xi xj => packR 0x81 xi xj 0 0 0 0
  | .geswpc xi xj => packR 0x82 xi xj 0 0 0 0
  | .gescl xr xb => packR 0x83 xr xb 0 0 0 0
  | .geaxpy xi xr xb => packR 0x84 xi xr xb 0 0 0
  | .genorm xr xc => packR 0x85 xr xc 0 0 0 0
  | .geelim xr xc xlo xhi => packR 0x86 xr xc xlo xhi 0 0
  | .gepivf xd xc xlo xhi => packR 0x87 xd xc xlo xhi 0 0
  | .gepivm xd xr0 xc0 xr1 xc1 => packR 0x88 xd xr0 xc0 xr1 xc1 0
  | .gerref xd => packR 0x89 xd 0 0 0 0 0
  | .svinit xl xt => packR 0x90 xl xt 0 0 0 0
  | .svaddr vr vs => packR 0x91 vr vs 0 0 0 0
  | .svaddm ma md => packR 0x92 ma md 0 0 0 0
  | .svrun => packR 0x93 0 0 0 0 0 0
  | .svres md => packR 0x94 md 0 0 0 0 0
  | .svstat xd => packR 0x95 xd 0 0 0 0 0
  | .svrows xd => packR 0x96 xd 0 0 0 0 0
  | .svabort => packR 0x97 0 0 0 0 0 0

end Sys2Proof
end

