-- ==== Sys2Proof/Config.lean ====
section
/-! DEFINITION. What an implementation fixes (00_scope.md R5) and the free values. The sizes are a plain record,
held in State so that every claim quantifies over them (log 1). The values the spec leaves open after a command or
an access are opaque constants without a body: nothing can evaluate them. -/

namespace Sys2Proof

/-- The `OPEN` sizes of 00_scope.md R5 (92 D8). -/
structure Params where
  /-- `M_MAX_DIM`: largest row count and largest column count of a matrix. -/
  mMaxDim : Nat
  /-- `V_MAX_LEN`: longest byte vector. -/
  vMaxLen : Nat
  /-- `P_MAX_LEN`: longest index list. -/
  pMaxLen : Nat
  /-- `SV_MAX_L`: largest intermediate-symbol count L. -/
  svMaxL : Nat
  /-- `SV_MAX_T`: largest symbol size T in bytes. -/
  svMaxT : Nat
  /-- `SV_MAX_ROWS`: most rows the solver collects. -/
  svMaxRows : Nat
  /-- `QDEPTH`: command queue entries. -/
  qDepth : Nat
  deriving DecidableEq, Repr

/-- The constraints of R5 and D8; `M_MAX_DIM` < 2^32 is R311's (46_gauss.md; log 17). -/
def Params.valid (c : Params) : Bool :=
  decide (1 ≤ c.mMaxDim ∧ c.mMaxDim < 2 ^ 32 ∧ c.mMaxDim ≤ c.vMaxLen ∧ 1 ≤ c.pMaxLen ∧
    1 ≤ c.svMaxL ∧ c.svMaxL ≤ c.mMaxDim ∧ 1 ≤ c.svMaxT ∧ c.svMaxT ≤ c.mMaxDim ∧
    c.svMaxL ≤ c.svMaxRows ∧ 1 ≤ c.qDepth)

namespace Config

/-- DESIGN CHOICE (log 1): the sizes that State.reset starts with, those 95_test_vectors.md assumes ("Parameters
assumed"). No meaning mentions it; every meaning reads the sizes from State. -/
def resetParams : Params :=
  { mMaxDim := 64, vMaxLen := 64, pMaxLen := 64, svMaxL := 64, svMaxT := 64, svMaxRows := 128, qDepth := 16 }

/-- `MMIO_BASE` (R73, I1): the platform's. FREE VALUE (log 13). -/
opaque mmioBase : Nat

/-- FREE VALUE (log 4): which of the codes 2, 3, 4 the k-th `SVSTATE` read made during an `SVRUN` returns
(10_state.md R47, D45, I5). -/
opaque freePhase : Nat → Fin 3

/-- FREE VALUE (log 5): the order in which `SVRUN` offers the collected rows to the elimination when they are
inconsistent (47_solver.md R333(b), I4). A function of L, T and the rows only, as R334 asks. -/
opaque freeRowOrder : Nat → Nat → List (List Byte × List Byte) → List Nat

end Config

end Sys2Proof
end

