-- ==== Sys2Proof/Machine/State.lean ====
section
/-! DEFINITION. The state of one ORQ-CORE instance (10_state.md R20) as plain data, why a step may stop, and the
state after reset (70_reset_and_hazards.md R401). -/

namespace Sys2Proof.Machine

/-- The representation tag of a matrix (R23): it changes no value, result, fault or limit (R26). -/
inductive MRepr where
  | denseRow
  | denseCol
  | sparse
  deriving DecidableEq, Repr

/-- One matrix (R23). `elems` is its rows, row 0 first, each row's column 0 first. -/
structure ByteMatrix where
  rows : Nat
  cols : Nat
  repr : MRepr
  elems : List (List Byte)
  deriving DecidableEq, Repr

/-- The canonical form: `rows` rows of `cols` bytes each, so equal matrices are equal data (R23, log 8). -/
def ByteMatrix.wf (m : ByteMatrix) : Bool :=
  m.elems.length == m.rows && m.elems.all (fun r => r.length == m.cols)

/-- The ten causes of a fault (60_exceptions.md R370). -/
inductive Cause where
  | dimensionMismatch
  | indexOutOfRange
  | divisionByZero
  | unsupportedBlockSize
  | insufficientSymbols
  | illegalCommand
  | unallocatedSlot
  | illegalState
  | capacityExceeded
  | illegalArgument
  deriving DecidableEq, Repr

/-- The GE context (R28): slot numbers, not copies. -/
structure GeContext where
  valid : Bool
  a : MSlot
  hasD : Bool
  d : MSlot
  hasPR : Bool
  pr : PSlot
  hasPC : Bool
  pc : PSlot
  deriving DecidableEq, Repr

/-- The solver's states (R30). -/
inductive SvState where
  | idle
  | collecting
  | reducingPhase1
  | reducingPhase2
  | backSubstitution
  | solved
  | failed
  deriving DecidableEq, Repr

/-- The solver (R29). `SV_N` is the length of `rows` (log 9). `sol` is `SV_X`, row 0 first, empty when there is none. -/
structure Solver where
  state : SvState
  l : Word
  t : Word
  rows : List (List Byte × List Byte)
  sol : List (List Byte)
  deriving DecidableEq, Repr

/-- The bits of `STATUS` that are stored (R42). `BUSY` is computed from the queue (R31, log 9). -/
structure Status where
  fault : Bool
  done : Bool
  signal : Bool
  overrun : Bool
  accerr : Bool
  deriving DecidableEq, Repr

/-- The interrupt enables of `CTRL` (R41). All other bits read 0. -/
structure Ctrl where
  ieDone : Bool
  ieFault : Bool
  ieSignal : Bool
  deriving DecidableEq, Repr

/-- `DWSEL` (R50). All other bits read 0. -/
structure DwSel where
  kind : Fin 4
  slot : Fin 16
  deriving DecidableEq, Repr

/-- One host access to the window (R40, R71): a byte offset inside the 4 KiB, a width in bytes, and what a write
carries. -/
inductive HostOp where
  | read (off : BitVec 12) (bytes : Nat)
  | write (off : BitVec 12) (bytes : Nat) (v : Word)
  deriving DecidableEq, Repr

/-- What happens next at the block (R4, R77; log 2). -/
inductive HostEvent where
  /-- The core's turn: it executes the command at the head of the queue, if there is one. -/
  | core
  /-- A host access. `during` says that it lands while the head command executes (R47), not before it starts. -/
  | access (op : HostOp) (during : Bool)
  /-- A host access at the same time as the end of the head command (R42 "at once", R405(e); log 12). -/
  | together (op : HostOp)
  /-- The platform asserts the reset input (R400(a)). -/
  | hardReset
  deriving DecidableEq, Repr

/-- The block's answer to a host access. -/
inductive BusResponse where
  /-- A read returned a value. -/
  | data (v : Word)
  /-- A write was taken (or ignored, as the register's rule says). -/
  | written
  /-- Wrong width or alignment (R71). -/
  | busError
  deriving DecidableEq, Repr

/-- The state of R20, and after it the model's own fields (INVENTORY.md). -/
structure State where
  /-- `X0`..`X15` (R21). Read and written through `getX` and `setX`. -/
  x : Vector Word 16
  /-- `CMDCNT` (R22). -/
  cmdcnt : Word
  /-- `M0`..`M15` (R23); `none` is `Unallocated`. -/
  m : Vector (Option ByteMatrix) 16
  /-- `V0`..`V15` (R24). -/
  v : Vector (Option (List Byte)) 16
  /-- `P0`..`P15` (R25). -/
  p : Vector (Option (List Word)) 16
  /-- The GE context (R28). -/
  ge : GeContext
  /-- The solver (R29). -/
  sv : Solver
  /-- The command queue, head first; the head is the command executing or next to execute (R31). -/
  queue : List Word
  /-- `CAUSE` (R32, R43); `none` is code 0. -/
  cause : Option Cause
  /-- `FAULT_CMD` (R32, R44). -/
  faultCmd : Word
  /-- `FAULT_SEQ` (R32, R44). -/
  faultSeq : Word
  /-- `CTRL` (R41). -/
  ctrl : Ctrl
  /-- `STATUS` (R42). -/
  status : Status
  /-- `DWSEL` (R50). -/
  dwsel : DwSel
  /-- `DWADDR` (R51). -/
  dwaddr : Word
  /-- The sizes of this instance (R5; log 1). -/
  params : Params
  /-- The host events to come, oldest first (log 2). -/
  agenda : List HostEvent
  /-- The answer to the last host access (log 19). -/
  response : Option BusResponse
  /-- How many free values `SVSTATE` reads have drawn (log 4). -/
  draws : Nat
  deriving DecidableEq, Repr

/-- Why the machine could stop. No step raises one: 93_implementation_defined.md says "No behaviour of this block is
`stuck`: every command retires or faults", and a fault of R370 is a next state (R380). -/
inductive Fault where
  /-- Raised by nobody; it stands for the stuck state that 93 says the block does not have. Safe. -/
  | stuck
  deriving DecidableEq, Repr

/-- Why the model could decline an instruction. -/
inductive Refusal where
  /-- Raised by an arm of `exec` whose instruction has no meaning yet: none is left. Safe. -/
  | notModelled (mnemonic : String)
  deriving DecidableEq, Repr

/-- The reset state of an instance with sizes `c`: every value of R401's table. -/
def State.resetWith (c : Params) : State :=
  { x := Vector.replicate 16 0
    cmdcnt := 0
    m := Vector.replicate 16 none
    v := Vector.replicate 16 none
    p := Vector.replicate 16 none
    ge := { valid := false, a := 0, hasD := false, d := 0, hasPR := false, pr := 0, hasPC := false, pc := 0 }
    sv := { state := .idle, l := 0, t := 0, rows := [], sol := [] }
    queue := []
    cause := none
    faultCmd := 0
    faultSeq := 0
    ctrl := { ieDone := false, ieFault := false, ieSignal := false }
    status := { fault := false, done := false, signal := false, overrun := false, accerr := false }
    dwsel := { kind := 0, slot := 0 }
    dwaddr := 0
    params := c
    agenda := []
    response := none
    draws := 0 }

/-- The machine right after reset (R401), at the sizes of log 1. -/
def State.reset : State := State.resetWith Config.resetParams

end Sys2Proof.Machine
end

