-- ==== Sys2Proof/Machine/Flags.lean ====
section
/-! DEFINITION. The status flags and the words the host reads them as. The block has no condition codes (10_state.md
R33); its only flags are the bits of `STATUS`, each set by the event its row of R42 names. -/

namespace Sys2Proof.Machine

/-- The cause codes (60_exceptions.md R370). -/
def Cause.code : Cause → Nat
  | .dimensionMismatch => 1
  | .indexOutOfRange => 2
  | .divisionByZero => 3
  | .unsupportedBlockSize => 4
  | .insufficientSymbols => 5
  | .illegalCommand => 6
  | .unallocatedSlot => 7
  | .illegalState => 8
  | .capacityExceeded => 9
  | .illegalArgument => 10

/-- The solver's state codes (R30). -/
def SvState.code : SvState → Nat
  | .idle => 0
  | .collecting => 1
  | .reducingPhase1 => 2
  | .reducingPhase2 => 3
  | .backSubstitution => 4
  | .solved => 5
  | .failed => 6

/-- The values `MREPR` writes (R229). -/
def MRepr.code : MRepr → Nat
  | .denseRow => 1
  | .denseCol => 2
  | .sparse => 3

/-- `SV_N` (R29). -/
def Solver.n (sv : Solver) : Nat := sv.rows.length

/-- `QCOUNT` (R31). -/
def State.qcount (s : State) : Nat := s.queue.length

/-- `STATUS.BUSY`: 1 exactly when `QCOUNT` > 0 (R31). -/
def State.busy (s : State) : Bool := decide (0 < s.qcount)

/-- `STATUS` as the host reads it (R42). -/
def State.statusWord (s : State) : Word :=
  BitVec.ofNat 32 (s.busy.toNat + 2 * s.status.fault.toNat + 4 * s.status.done.toNat + 8 * s.status.signal.toNat +
    16 * s.status.overrun.toNat + 32 * s.status.accerr.toNat)

/-- `CTRL` as the host reads it: bit 31 and the reserved bits read 0 (R41). -/
def Ctrl.word (c : Ctrl) : Word :=
  BitVec.ofNat 32 (c.ieDone.toNat + 2 * c.ieFault.toNat + 4 * c.ieSignal.toNat)

/-- What a write of w leaves in the enables (R41). -/
def Ctrl.ofWord (w : Word) : Ctrl := { ieDone := w.getLsbD 0, ieFault := w.getLsbD 1, ieSignal := w.getLsbD 2 }

/-- A W1C write of w to `STATUS`: writing 1 clears bits 1 to 5, writing 0 leaves a bit, bit 0 and bits [31:6] are
ignored (R42). -/
def Status.writeOneClear (st : Status) (w : Word) : Status :=
  { fault := st.fault && !w.getLsbD 1
    done := st.done && !w.getLsbD 2
    signal := st.signal && !w.getLsbD 3
    overrun := st.overrun && !w.getLsbD 4
    accerr := st.accerr && !w.getLsbD 5 }

/-- The interrupt output (R383). -/
def State.irq (s : State) : Bool :=
  (s.status.done && s.ctrl.ieDone) || (s.status.fault && s.ctrl.ieFault) || (s.status.signal && s.ctrl.ieSignal)

/-- `CAUSE` as the host reads it (R43): 0 if no command has faulted. -/
def State.causeWord (s : State) : Word :=
  match s.cause with
  | none => 0
  | some c => BitVec.ofNat 32 c.code

end Sys2Proof.Machine
end

