-- ==== Sys2Proof/Machine/Objects.lean ====
section
/-! DEFINITION. The objects a slot holds, and the operations on them that several commands share: building an object
from a function (00_scope.md R8 `new_matrix`, `new_vector`, `new_index`), reading an element, and the row and column
operations of 46_gauss.md R302. An element outside an object is never asked for by a command that has made its checks;
the readers answer 0 there. -/

namespace Sys2Proof.Machine

/-- Entry k of a vector, `v.e[k]`. -/
def vecAt (v : List Byte) (k : Nat) : Byte := v.getD k 0

/-- Entry k of an index list, `p.e[k]`. -/
def indexAt (p : List Word) (k : Nat) : Word := p.getD k 0

/-- `new_vector(n, f)`. -/
def newVector (n : Nat) (f : Nat → Byte) : List Byte := (List.range n).map f

/-- `new_index(n, f)`. -/
def newIndex (n : Nat) (f : Nat → Word) : List Word := (List.range n).map f

/-- The entries i and j exchanged, all others kept (R178, R207, R302). -/
def swapFn {α : Type} (i j : Nat) (f : Nat → α) (k : Nat) : α :=
  if k = i then f j else if k = j then f i else f k

/-- Element (i, j) of a matrix, `m.e[i][j]`. -/
def ByteMatrix.e (m : ByteMatrix) (i j : Nat) : Byte := (m.elems.getD i []).getD j 0

/-- `new_matrix(rows, cols, repr, f)`. -/
def newMatrix (rows cols : Nat) (rep : MRepr) (f : Nat → Nat → Byte) : ByteMatrix :=
  { rows := rows, cols := cols, repr := rep, elems := (List.range rows).map fun i => (List.range cols).map (f i) }

/-- The matrix with the same shape and representation and element (i, j) = f i j: an in-place change. -/
def ByteMatrix.withElems (m : ByteMatrix) (f : Nat → Nat → Byte) : ByteMatrix := newMatrix m.rows m.cols m.repr f

/-- Row r as a vector (R232). -/
def ByteMatrix.row (m : ByteMatrix) (r : Nat) : List Byte := newVector m.cols (m.e r)

/-- Column c as a vector (R233). -/
def ByteMatrix.col (m : ByteMatrix) (c : Nat) : List Byte := newVector m.rows fun k => m.e k c

/-- The identity pattern: 1 at (i, i), 0 elsewhere (R225, D41). -/
def identityAt (i j : Nat) : Byte := if i = j then 1 else 0

/-- Rows i and j exchanged (R237, R302). -/
def ByteMatrix.swapRows (i j : Nat) (m : ByteMatrix) : ByteMatrix := m.withElems (swapFn i j m.e)

/-- Columns i and j exchanged (R238, R302). -/
def ByteMatrix.swapCols (i j : Nat) (m : ByteMatrix) : ByteMatrix := m.withElems fun r => swapFn i j (m.e r)

/-- `scale(r, β)`: row r ← β · row r (R302). -/
def ByteMatrix.scaleRow (r : Nat) (β : Byte) (m : ByteMatrix) : ByteMatrix :=
  m.withElems fun i j => if i = r then gfMul β (m.e i j) else m.e i j

/-- For every row i: row i ← row i ⊕ f i · row r, all read from m (R302 `axpy`, R310). -/
def ByteMatrix.axpyRows (r : Nat) (f : Nat → Byte) (m : ByteMatrix) : ByteMatrix :=
  m.withElems fun i j => gfAdd (m.e i j) (gfMul (f i) (m.e r j))

/-- `axpy(i, r, β)`: row i ← row i ⊕ β · row r; so i = r gives (1 ⊕ β) · row r (R302). -/
def ByteMatrix.axpyRow (i r : Nat) (β : Byte) (m : ByteMatrix) : ByteMatrix :=
  m.axpyRows r fun k => if k = i then β else 0

/-- The product of R267: element (i, j) is Σ_{k < a.cols} a[i][k] · b[k][j]. -/
def ByteMatrix.mul (rep : MRepr) (a b : ByteMatrix) : ByteMatrix :=
  newMatrix a.rows b.cols rep fun i j => gfSum ((List.range a.cols).map fun k => gfMul (a.e i k) (b.e k j))

/-- a^n under R267's product, by repeated squaring on the low `bits` bits of n (R269: "which a build may compute by
repeated squaring"; log 14). -/
def ByteMatrix.powBits (rep : MRepr) (a : ByteMatrix) : Nat → Nat → ByteMatrix
  | 0, _ => newMatrix a.rows a.rows rep identityAt
  | bits + 1, n =>
    if n = 0 then newMatrix a.rows a.rows rep identityAt
    else
      let h := ByteMatrix.powBits rep a bits (n / 2)
      let sq := ByteMatrix.mul rep h h
      if n % 2 = 1 then ByteMatrix.mul rep sq a else sq

/-- Whether (i, j) lies in the rectangle [r0, r1) × [c0, c1) (R221). -/
def inRect (r0 c0 r1 c1 i j : Nat) : Bool := decide (r0 ≤ i ∧ i < r1 ∧ c0 ≤ j ∧ j < c1)

/-- The elements of a rectangle, row by row: what R247, R278 and R279 count, add and multiply. -/
def ByteMatrix.rectElems (m : ByteMatrix) (r0 c0 r1 c1 : Nat) : List Byte :=
  (List.range (r1 - r0)).flatMap fun i => (List.range (c1 - c0)).map fun j => m.e (r0 + i) (c0 + j)

/-- How many of the values are not 0 (R180, R247, R312). -/
def countNonzero (ts : List Byte) : Nat := ts.countP fun t => t != 0

/-- Whether every element satisfies f (R282's quantifiers). -/
def ByteMatrix.allElems (m : ByteMatrix) (f : Nat → Nat → Byte → Bool) : Bool :=
  (List.range m.rows).all fun i => (List.range m.cols).all fun j => f i j (m.e i j)

/-- R282's table. -/
def predHolds (prd : PredCode) (m : ByteMatrix) : Bool :=
  match prd with
  | .zero => m.allElems fun _ _ t => t == 0
  | .nonzero => m.allElems fun _ _ t => t != 0
  | .one => m.allElems fun _ _ t => t == 1
  | .identity => m.rows == m.cols && m.allElems fun i j t => t == identityAt i j
  | .diagonal => m.allElems fun i j t => i == j || t == 0
  | .upperTriangular => m.allElems fun i j t => !decide (i > j) || t == 0
  | .lowerTriangular => m.allElems fun i j t => !decide (i < j) || t == 0
  | .symmetric => m.rows == m.cols && m.allElems fun i j t => t == m.e j i

/-- Whether the list of n entries holds each of 0..n-1 exactly once (R208). -/
def isPermutation (p : List Word) : Bool :=
  (List.range p.length).all fun j => (p.map BitVec.toNat).count j == 1

/-- The k with p.e[k] = j (R208). -/
def positionOf (p : List Word) (j : Nat) : Nat := (p.map BitVec.toNat).idxOf j

/-- The least i in [lo, hi) with f i (R311, R313). -/
def leastIn (lo hi : Nat) (f : Nat → Bool) : Option Nat :=
  ((List.range (hi - lo)).map (lo + ·)).find? f

/-- The least i in [lo, hi) whose degree is at least 1 and minimal among those of degree at least 1 (R312). -/
def leastDegreeIn (lo hi : Nat) (deg : Nat → Nat) : Option Nat :=
  leastIn lo hi fun i => decide (1 ≤ deg i) && (List.range (hi - lo)).all fun k =>
    decide (deg (lo + k) = 0) || decide (deg i ≤ deg (lo + k))

end Sys2Proof.Machine
end

