-- ==== Sys2Proof/Machine/Ops.lean ====
section
/-! DEFINITION. The named operations over registers and slots, and the two ways a command ends: it retires, or it takes
a fault. A command is a function from the state before it to its writes or its cause, so it makes all its writes
together or none (00_scope.md R10, 92 D10, D12). -/

namespace Sys2Proof.Machine

/-- What executing a command gives: the state with its writes, or the cause it raises (R8). -/
abbrev Result := Except Cause State

/-- `X[n]`: `X0` always reads 0 (R21). -/
def State.getX (s : State) (n : XReg) : Word := if n = 0 then 0 else s.x[n.val]

/-- `X[n] <- v`: a write to `X0` is discarded (R21). -/
def State.setX (s : State) (n : XReg) (v : Word) : State := if n = 0 then s else { s with x := s.x.set n.val v }

/-- `M[k]`. -/
def State.getM (s : State) (k : MSlot) : Option ByteMatrix := s.m[k.val]

/-- `V[k]`. -/
def State.getV (s : State) (k : VSlot) : Option (List Byte) := s.v[k.val]

/-- `P[k]`. -/
def State.getP (s : State) (k : PSlot) : Option (List Word) := s.p[k.val]

/-- `M[k] <- o`: binds the object and drops what the slot held (R220). -/
def State.setM (s : State) (k : MSlot) (o : Option ByteMatrix) : State := { s with m := s.m.set k.val o }

/-- `V[k] <- o` (R160). -/
def State.setV (s : State) (k : VSlot) (o : Option (List Byte)) : State := { s with v := s.v.set k.val o }

/-- `P[k] <- o` (R200). -/
def State.setP (s : State) (k : PSlot) (o : Option (List Word)) : State := { s with p := s.p.set k.val o }

/-- A check of R376: go on if h holds, raise c otherwise. -/
def require (h : Bool) (c : Cause) (k : Result) : Result := if h then k else .error c

/-- The matrix a slot holds, or `UnallocatedSlot` (R370 code 7). -/
def withM (s : State) (k : MSlot) (f : ByteMatrix → Result) : Result :=
  match s.getM k with
  | some o => f o
  | none => .error .unallocatedSlot

/-- The vector a slot holds, or `UnallocatedSlot`. -/
def withV (s : State) (k : VSlot) (f : List Byte → Result) : Result :=
  match s.getV k with
  | some o => f o
  | none => .error .unallocatedSlot

/-- The index list a slot holds, or `UnallocatedSlot`. -/
def withP (s : State) (k : PSlot) (f : List Word → Result) : Result :=
  match s.getP k with
  | some o => f o
  | none => .error .unallocatedSlot

/-- The word at the head of the queue, the command that executes (R31). With an empty queue no command executes; the
function answers 0 there (log 11). -/
def State.headWord (s : State) : Word := s.queue.headD 0

/-- TAKING A FAULT (60_exceptions.md R380), from the state before the command: every write discarded, the record
written, the queue flushed, `STATUS.FAULT` set, `CMDCNT` and the other status bits kept. `InsufficientSymbols` alone
commits a change (R336, R381(a)). -/
def takeFault (c : Cause) (s : State) : State :=
  { s with
    sv := if c = .insufficientSymbols then { s.sv with state := .failed, sol := [] } else s.sv
    cause := some c
    faultCmd := s.headWord
    faultSeq := s.cmdcnt
    queue := []
    status := { s.status with fault := true } }

/-- LEAVING THE FAULT STATE (R381) is the host's: its write of 1 to `STATUS` bit 1 clears the bit, the record keeps
its values, nothing is resumed. The same write clears the other W1C bits it names (R42). -/
def acknowledge (w : Word) (s : State) : State := { s with status := s.status.writeOneClear w }

/-- A command retires: it leaves the queue, `CMDCNT` counts it (R22), and `STATUS.DONE` is set if the queue is then
empty (R42, D46). -/
def retire (s : State) : State :=
  { s with
    queue := s.queue.tail
    cmdcnt := s.cmdcnt + 1
    status := { s.status with done := s.status.done || s.queue.tail.isEmpty } }

/-- How a command ends (R10, R380). Both ways are next states. -/
def finish (s : State) (r : Result) : Host.Outcome State Fault Refusal :=
  match r with
  | .ok t => .next (retire t)
  | .error c => .next (takeFault c s)

end Sys2Proof.Machine
end

