-- ==== Sys2Proof/Machine/Operands.lean ====
section
/-! DEFINITION. The operand forms (30_encoding.md R104 to R107; 42_vector.md R161; 44_matrix_store.md R221). -/

namespace Sys2Proof.Machine

/-- Bits [7:0] of a register: a field element; bits [31:8] are ignored (R104, D11). -/
def lowByte (w : Word) : Byte := BitVec.ofNat 8 w.toNat

/-- `zext_32` of a field element (R7, D11). -/
def zextByte (b : Byte) : Word := BitVec.ofNat 32 b.toNat

/-- `zext_32(IMM)` (R105). -/
def zextImm (imm : BitVec 16) : Word := BitVec.ofNat 32 imm.toNat

/-- `sext_32(IMM)`: bit 15 is the sign (R105, R7). -/
def sextImm (imm : BitVec 16) : Word := imm.signExtend 32

/-- `{IMM, w[15:0]}` (R124, R6). -/
def upperImm (imm : BitVec 16) (w : Word) : Word := BitVec.ofNat 32 (imm.toNat * 2 ^ 16 + w.toNat % 2 ^ 16)

/-- A count, index, position or size operand: the whole register, unsigned (R161, R221). -/
def State.index (s : State) (n : XReg) : Nat := (s.getX n).toNat

/-- A field-element operand (R161). -/
def State.element (s : State) (n : XReg) : Byte := lowByte (s.getX n)

/-- A size or count written to a register: modulo 2^32 (R7). -/
def countWord (n : Nat) : Word := BitVec.ofNat 32 n

/-- `repr_of(E, m)`: the `#repr` field if it is 1..3, else the source's (R107, R236). -/
def reprOf (rep : ReprCode) (source : MRepr) : MRepr :=
  match rep with
  | .inherit => source
  | .denseRow => .denseRow
  | .denseCol => .denseCol
  | .sparse => .sparse

/-- A range [lo, hi) is valid when lo ≤ hi ≤ len (R161). -/
def rangeOk (lo hi len : Nat) : Bool := decide (lo ≤ hi ∧ hi ≤ len)

/-- A rectangle is valid when r0 ≤ r1 ≤ rows and c0 ≤ c1 ≤ cols (R221). -/
def rectOk (m : ByteMatrix) (r0 c0 r1 c1 : Nat) : Bool := rangeOk r0 r1 m.rows && rangeOk c0 c1 m.cols

/-- Every entry of an index list is below a bound (R181, R244). -/
def entriesBelow (p : List Word) (bound : Nat) : Bool := p.all fun w => decide (w.toNat < bound)

end Sys2Proof.Machine
end

