-- ==== Sys2Proof/Machine/Control.lean ====
section
/-! DEFINITION. System and scalar-register commands (40_control.md). Register arithmetic is modulo 2^32 and never
faults (R120, R131). -/

namespace Sys2Proof.Machine

/-- `NOP` (R121). -/
def execNop (s : State) : Host.Outcome State Fault Refusal := finish s (.ok s)

/-- `SIGNAL` (R122). -/
def execSignal (s : State) : Host.Outcome State Fault Refusal :=
  finish s (.ok { s with status := { s.status with signal := true } })

/-- `XLI` (R123): `X[A] <- zext_32(IMM)`. -/
def execXli (d : XReg) (imm : BitVec 16) (s : State) : Host.Outcome State Fault Refusal :=
  finish s (.ok (s.setX d (zextImm imm)))

/-- `XLUI` (R124): `X[A] <- {IMM, X[A][15:0]}`. -/
def execXlui (d : XReg) (imm : BitVec 16) (s : State) : Host.Outcome State Fault Refusal :=
  finish s (.ok (s.setX d (upperImm imm (s.getX d))))

/-- `XADDI` (R125): `X[A] <- (X[B] + sext_32(IMM)) mod 2^32`. -/
def execXaddi (d b : XReg) (imm : BitVec 16) (s : State) : Host.Outcome State Fault Refusal :=
  finish s (.ok (s.setX d (s.getX b + sextImm imm)))

/-- `XMOV` (R126). -/
def execXmov (d b : XReg) (s : State) : Host.Outcome State Fault Refusal :=
  finish s (.ok (s.setX d (s.getX b)))

/-- `XADD` (R127). -/
def execXadd (d b c : XReg) (s : State) : Host.Outcome State Fault Refusal :=
  finish s (.ok (s.setX d (s.getX b + s.getX c)))

/-- `XSUB` (R128). -/
def execXsub (d b c : XReg) (s : State) : Host.Outcome State Fault Refusal :=
  finish s (.ok (s.setX d (s.getX b - s.getX c)))

end Sys2Proof.Machine
end

