-- ==== Sys2Proof/Machine/Elimination.lean ====
section
/-! DEFINITION. A system [A | D] with its row and column lists, the row operations of 46_gauss.md R302 on it, and
Gauss-Jordan elimination (R313), which the GE kernel and the solver share. -/

namespace Sys2Proof.Machine

/-- A coefficient matrix, and the parts of R300 that are present. -/
structure Augmented where
  a : ByteMatrix
  d : Option ByteMatrix
  pr : Option (List Word)
  pc : Option (List Word)
  deriving DecidableEq, Repr

/-- Entries i and j of a list exchanged. -/
def swapEntries (i j : Nat) (p : List Word) : List Word := newIndex p.length (swapFn i j (indexAt p))

/-- `swap_rows(i, j)`: rows of A and of D, entries of PR (R302). -/
def Augmented.swapRows (i j : Nat) (t : Augmented) : Augmented :=
  { t with a := t.a.swapRows i j, d := t.d.map (ByteMatrix.swapRows i j), pr := t.pr.map (swapEntries i j) }

/-- `swap_cols(i, j)`: columns of A, entries of PC; D is not changed (R302). -/
def Augmented.swapCols (i j : Nat) (t : Augmented) : Augmented :=
  { t with a := t.a.swapCols i j, pc := t.pc.map (swapEntries i j) }

/-- `scale(r, β)` on A and D (R302). -/
def Augmented.scaleRow (r : Nat) (β : Byte) (t : Augmented) : Augmented :=
  { t with a := t.a.scaleRow r β, d := t.d.map (ByteMatrix.scaleRow r β) }

/-- `axpy(i, r, f i)` for every row i at once, on A and D, all read from t (R302, R310). -/
def Augmented.axpyRows (r : Nat) (f : Nat → Byte) (t : Augmented) : Augmented :=
  { t with a := t.a.axpyRows r f, d := t.d.map (ByteMatrix.axpyRows r f) }

/-- `axpy(i, r, β)` on A and D (R302). -/
def Augmented.axpyRow (i r : Nat) (β : Byte) (t : Augmented) : Augmented :=
  t.axpyRows r fun k => if k = i then β else 0

/-- The loop body of R313 for column c, with k pivot rows placed so far: no candidate in rows [k, rows), go on;
otherwise swap it to row k, scale its pivot to 1, clear column c in every other row from `base` on. R313 has base 0.
The `break` at k = rows is the empty range of candidates. -/
def reduceColumn (base : Nat) (st : Augmented × Nat) (c : Nat) : Augmented × Nat :=
  match leastIn st.2 st.1.a.rows (fun i => st.1.a.e i c != 0) with
  | none => st
  | some r =>
    let t := st.1.swapRows r st.2
    let u := t.scaleRow st.2 (gfInvNz (t.a.e st.2 c))
    (u.axpyRows st.2 (fun i => if i = st.2 ∨ i < base then 0 else u.a.e i c), st.2 + 1)

/-- Gauss-Jordan elimination over the given columns in order, pivot rows taken from row `base` on; the second part of
the result counts the rows up to the last pivot row, so with base 0 it is the rank (R313). -/
def gaussJordan (base : Nat) (cols : List Nat) (t : Augmented) : Augmented × Nat :=
  cols.foldl (reduceColumn base) (t, base)

end Sys2Proof.Machine
end

