-- ==== Sys2Proof/Machine/Gauss.lean ====
section
/-! DEFINITION. The Gaussian-elimination kernel (46_gauss.md). -/

namespace Sys2Proof.Machine

/-- A matrix part that is read only when its flag is set. -/
def withOptM (s : State) (has : Bool) (k : MSlot) (f : Option ByteMatrix → Result) : Result :=
  if has then withM s k fun o => f (some o) else f none

/-- An index-list part that is read only when its flag is set. -/
def withOptP (s : State) (has : Bool) (k : PSlot) (f : Option (List Word) → Result) : Result :=
  if has then withP s k fun o => f (some o) else f none

/-- The parts of a context, then their shapes: R301 (2) and (3), the same checks as R304's. -/
def withParts (s : State) (g : GeContext) (f : Augmented → Result) : Result :=
  withM s g.a fun a =>
  withOptM s g.hasD g.d fun d =>
  withOptP s g.hasPR g.pr fun pr =>
  withOptP s g.hasPC g.pc fun pc =>
  require (d.all fun o => o.rows == a.rows) .dimensionMismatch <|
  require (pr.all fun o => o.length == a.rows) .dimensionMismatch <|
  require (pc.all fun o => o.length == a.cols) .dimensionMismatch <|
  f { a := a, d := d, pr := pr, pc := pc }

/-- Context validation (R301): `IllegalState`, then the parts, then their shapes. -/
def withContext (s : State) (f : Augmented → Result) : Result :=
  require s.ge.valid .illegalState <| withParts s s.ge f

/-- Writes the changed parts back to the context's slots, in place (R300). -/
def State.putContext (s : State) (t : Augmented) : State :=
  let s1 := s.setM s.ge.a (some t.a)
  let s2 := match t.d with
    | some o => s1.setM s.ge.d (some o)
    | none => s1
  let s3 := match t.pr with
    | some o => s2.setP s.ge.pr (some o)
    | none => s2
  match t.pc with
  | some o => s3.setP s.ge.pc (some o)
  | none => s3

/-- `GECFG` (R304). Its first check is an encoding check, so no decoded word fails it (log 16). -/
def execGecfg (a d : MSlot) (pr pc : PSlot) (fl : GeFlags) (s : State) : Host.Outcome State Fault Refusal :=
  finish s <|
    let g : GeContext :=
      { valid := true, a := a, hasD := fl.hasD, d := d, hasPR := fl.hasPR, pr := pr, hasPC := fl.hasPC, pc := pc }
    require (gecfgFieldsOk d pr pc fl) .illegalCommand <|
    withParts s g fun _ =>
    require (!(fl.hasD && d == a)) .illegalArgument <|
    require (!(fl.hasPR && fl.hasPC && pr == pc)) .illegalArgument <|
    .ok { s with ge := g }

/-- `GESWPR` (R305). -/
def execGeswpr (i j : XReg) (s : State) : Host.Outcome State Fault Refusal :=
  finish s <|
    withContext s fun t =>
    require (decide (s.index i < t.a.rows ∧ s.index j < t.a.rows)) .indexOutOfRange <|
    .ok (s.putContext (t.swapRows (s.index i) (s.index j)))

/-- `GESWPC` (R306). -/
def execGeswpc (i j : XReg) (s : State) : Host.Outcome State Fault Refusal :=
  finish s <|
    withContext s fun t =>
    require (decide (s.index i < t.a.cols ∧ s.index j < t.a.cols)) .indexOutOfRange <|
    .ok (s.putContext (t.swapCols (s.index i) (s.index j)))

/-- `GESCL` (R307): β = 0 is allowed. -/
def execGescl (r b : XReg) (s : State) : Host.Outcome State Fault Refusal :=
  finish s <|
    withContext s fun t =>
    require (decide (s.index r < t.a.rows)) .indexOutOfRange <|
    .ok (s.putContext (t.scaleRow (s.index r) (s.element b)))

/-- `GEAXPY` (R308). -/
def execGeaxpy (i r b : XReg) (s : State) : Host.Outcome State Fault Refusal :=
  finish s <|
    withContext s fun t =>
    require (decide (s.index i < t.a.rows ∧ s.index r < t.a.rows)) .indexOutOfRange <|
    .ok (s.putContext (t.axpyRow (s.index i) (s.index r) (s.element b)))

/-- `GENORM` (R309): a zero pivot raises `DivisionByZero`. -/
def execGenorm (r c : XReg) (s : State) : Host.Outcome State Fault Refusal :=
  finish s <|
    withContext s fun t =>
    require (decide (s.index r < t.a.rows ∧ s.index c < t.a.cols)) .indexOutOfRange <|
    require (t.a.e (s.index r) (s.index c) != 0) .divisionByZero <|
    .ok (s.putContext (t.scaleRow (s.index r) (gfInvNz (t.a.e (s.index r) (s.index c)))))

/-- `GEELIM` (R310): all rows of [lo, hi) but r at once; the pivot is checked even for an empty range. -/
def execGeelim (r c lo hi : XReg) (s : State) : Host.Outcome State Fault Refusal :=
  finish s <|
    withContext s fun t =>
    require (decide (s.index r < t.a.rows ∧ s.index c < t.a.cols) && rangeOk (s.index lo) (s.index hi) t.a.rows)
      .indexOutOfRange <|
    require (t.a.e (s.index r) (s.index c) != 0) .divisionByZero <|
    .ok (s.putContext (t.axpyRows (s.index r) fun i =>
      if s.index lo ≤ i ∧ i < s.index hi ∧ i ≠ s.index r
      then gfDivNz (t.a.e i (s.index c)) (t.a.e (s.index r) (s.index c)) else 0))

/-- A pivot search writes the row found, or `0xFFFFFFFF` for none (R311, R312). -/
def pivotWord (r : Option Nat) : Word :=
  match r with
  | some i => countWord i
  | none => 0xFFFFFFFF

/-- `GEPIVF` (R311). -/
def execGepivf (d c lo hi : XReg) (s : State) : Host.Outcome State Fault Refusal :=
  finish s <|
    withContext s fun t =>
    require (decide (s.index c < t.a.cols) && rangeOk (s.index lo) (s.index hi) t.a.rows) .indexOutOfRange <|
    .ok (s.setX d (pivotWord (leastIn (s.index lo) (s.index hi) fun i => t.a.e i (s.index c) != 0)))

/-- `deg(i)`: the non-zero elements of row i in columns [c0, c1) (R312). -/
def rowDegree (m : ByteMatrix) (c0 c1 i : Nat) : Nat :=
  countNonzero (newVector (c1 - c0) fun k => m.e i (c0 + k))

/-- `GEPIVM` (R312): the least row of least degree ≥ 1. -/
def execGepivm (d r0 c0 r1 c1 : XReg) (s : State) : Host.Outcome State Fault Refusal :=
  finish s <|
    withContext s fun t =>
    require (rectOk t.a (s.index r0) (s.index c0) (s.index r1) (s.index c1)) .indexOutOfRange <|
    .ok (s.setX d (pivotWord
      (leastDegreeIn (s.index r0) (s.index r1) (rowDegree t.a (s.index c0) (s.index c1)))))

/-- `GERREF` (R313): Gauss-Jordan over all columns; `X[A]` is the rank. -/
def execGerref (d : XReg) (s : State) : Host.Outcome State Fault Refusal :=
  finish s <|
    withContext s fun t =>
    let r := gaussJordan 0 (List.range t.a.cols) t
    .ok ((s.putContext r.1).setX d (countWord r.2))

end Sys2Proof.Machine
end

