-- ==== Sys2Proof/Machine/GfCommands.lean ====
section
/-! DEFINITION. GF(256) commands (41_gf256.md R149 to R156): bits [7:0] of the sources, except the whole-register
exponents; a byte result zero-extended; the fault also when the destination is `X0`. -/

namespace Sys2Proof.Machine

/-- A field function that may raise its fault, its result written zero-extended (R149). -/
def writeElement (s : State) (d : XReg) (r : Except Cause Byte) : Result :=
  match r with
  | .ok b => .ok (s.setX d (zextByte b))
  | .error c => .error c

/-- `GADD` (R150). -/
def execGadd (d b c : XReg) (s : State) : Host.Outcome State Fault Refusal :=
  finish s (writeElement s d (.ok (gfAdd (s.element b) (s.element c))))

/-- `GMUL` (R151). -/
def execGmul (d b c : XReg) (s : State) : Host.Outcome State Fault Refusal :=
  finish s (writeElement s d (.ok (gfMul (s.element b) (s.element c))))

/-- `GDIV` (R152): `DivisionByZero` whatever the dividend. -/
def execGdiv (d b c : XReg) (s : State) : Host.Outcome State Fault Refusal :=
  finish s (writeElement s d (gfDiv (s.element b) (s.element c)))

/-- `GINV` (R153). -/
def execGinv (d b : XReg) (s : State) : Host.Outcome State Fault Refusal :=
  finish s (writeElement s d (gfInv (s.element b)))

/-- `GEXP` (R154): the exponent is the whole register. -/
def execGexp (d b : XReg) (s : State) : Host.Outcome State Fault Refusal :=
  finish s (writeElement s d (.ok (gfExp (s.index b))))

/-- `GLOG` (R155): `X[A] <- zext_32(gf_log(X[B][7:0]))`. -/
def execGlog (d b : XReg) (s : State) : Host.Outcome State Fault Refusal :=
  finish s <|
    match gfLog (s.element b) with
    | .ok n => .ok (s.setX d (countWord n))
    | .error c => .error c

/-- `GPOW` (R156): the exponent is the whole register. -/
def execGpow (d b c : XReg) (s : State) : Host.Outcome State Fault Refusal :=
  finish s (writeElement s d (.ok (gfPow (s.element b) (s.index c))))

end Sys2Proof.Machine
end

