-- ==== Sys2Proof/Machine/IndexCommands.lean ====
section
/-! DEFINITION. Index-list commands (43_index.md). Entries are not checked when written (R200). -/

namespace Sys2Proof.Machine

/-- `PALLOC` (R202): the identity permutation. -/
def execPalloc (d : PSlot) (n : XReg) (s : State) : Host.Outcome State Fault Refusal :=
  finish s <|
    require (decide (s.index n ≤ s.params.pMaxLen)) .capacityExceeded <|
    .ok (s.setP d (some (newIndex (s.index n) fun k => countWord k)))

/-- `PFREE` (R203). -/
def execPfree (d : PSlot) (s : State) : Host.Outcome State Fault Refusal :=
  finish s <| withP s d fun _ => .ok (s.setP d none)

/-- `PLEN` (R204). -/
def execPlen (d : XReg) (b : PSlot) (s : State) : Host.Outcome State Fault Refusal :=
  finish s <| withP s b fun p => .ok (s.setX d (countWord p.length))

/-- `PGET` (R205). -/
def execPget (d : XReg) (b : PSlot) (k : XReg) (s : State) : Host.Outcome State Fault Refusal :=
  finish s <|
    withP s b fun p =>
    require (decide (s.index k < p.length)) .indexOutOfRange <|
    .ok (s.setX d (indexAt p (s.index k)))

/-- `PSET` (R206): the value is the whole register, unchecked. -/
def execPset (a : PSlot) (k c : XReg) (s : State) : Host.Outcome State Fault Refusal :=
  finish s <|
    withP s a fun p =>
    require (decide (s.index k < p.length)) .indexOutOfRange <|
    .ok (s.setP a (some (newIndex p.length fun j => if j = s.index k then s.getX c else indexAt p j)))

/-- `PSWP` (R207). -/
def execPswp (a : PSlot) (b c : XReg) (s : State) : Host.Outcome State Fault Refusal :=
  finish s <|
    withP s a fun p =>
    require (decide (s.index b < p.length ∧ s.index c < p.length)) .indexOutOfRange <|
    .ok (s.setP a (some (newIndex p.length (swapFn (s.index b) (s.index c) (indexAt p)))))

/-- `PINV` (R208). -/
def execPinv (d b : PSlot) (s : State) : Host.Outcome State Fault Refusal :=
  finish s <|
    withP s b fun p =>
    require (isPermutation p) .illegalArgument <|
    .ok (s.setP d (some (newIndex p.length fun j => countWord (positionOf p j))))

/-- `PCOPY` (R209). -/
def execPcopy (d b : PSlot) (s : State) : Host.Outcome State Fault Refusal :=
  finish s <| withP s b fun p => .ok (s.setP d (some (newIndex p.length (indexAt p))))

end Sys2Proof.Machine
end

