-- ==== Sys2Proof/Machine/MatrixStore.lean ====
section
/-! DEFINITION. Byte-matrix store commands (44_matrix_store.md). Checks stand in the order of 60_exceptions.md R376. A
result takes its representation by R107 (`reprOf`), a command without a `#repr` field its source's. -/

namespace Sys2Proof.Machine

/-- `MALLOC` (R225): `#repr` 0 is `DENSE_ROW`; `#init` 1 is the identity pattern on any shape (D41). -/
def execMalloc (d : MSlot) (b c : XReg) (rep : ReprCode) (ini : InitCode) (s : State) :
    Host.Outcome State Fault Refusal :=
  finish s <|
    require (decide (s.index b ≤ s.params.mMaxDim ∧ s.index c ≤ s.params.mMaxDim)) .capacityExceeded <|
    .ok (s.setM d (some (newMatrix (s.index b) (s.index c) (reprOf rep .denseRow)
      fun i j => if ini = .identity then identityAt i j else 0)))

/-- `MFREE` (R226). -/
def execMfree (d : MSlot) (s : State) : Host.Outcome State Fault Refusal :=
  finish s <| withM s d fun _ => .ok (s.setM d none)

/-- `MROWS` (R227). -/
def execMrows (d : XReg) (b : MSlot) (s : State) : Host.Outcome State Fault Refusal :=
  finish s <| withM s b fun m => .ok (s.setX d (countWord m.rows))

/-- `MCOLS` (R228). -/
def execMcols (d : XReg) (b : MSlot) (s : State) : Host.Outcome State Fault Refusal :=
  finish s <| withM s b fun m => .ok (s.setX d (countWord m.cols))

/-- `MREPR` (R229). -/
def execMrepr (d : XReg) (b : MSlot) (s : State) : Host.Outcome State Fault Refusal :=
  finish s <| withM s b fun m => .ok (s.setX d (countWord m.repr.code))

/-- `MGET` (R230). -/
def execMget (d : XReg) (b : MSlot) (r c : XReg) (s : State) : Host.Outcome State Fault Refusal :=
  finish s <|
    withM s b fun m =>
    require (decide (s.index r < m.rows ∧ s.index c < m.cols)) .indexOutOfRange <|
    .ok (s.setX d (zextByte (m.e (s.index r) (s.index c))))

/-- `MSET` (R231). -/
def execMset (a : MSlot) (r c x : XReg) (s : State) : Host.Outcome State Fault Refusal :=
  finish s <|
    withM s a fun m =>
    require (decide (s.index r < m.rows ∧ s.index c < m.cols)) .indexOutOfRange <|
    .ok (s.setM a (some (m.withElems fun i j =>
      if i = s.index r ∧ j = s.index c then s.element x else m.e i j)))

/-- `MGETR` (R232). -/
def execMgetr (d : VSlot) (b : MSlot) (r : XReg) (s : State) : Host.Outcome State Fault Refusal :=
  finish s <|
    withM s b fun m =>
    require (decide (s.index r < m.rows)) .indexOutOfRange <|
    .ok (s.setV d (some (m.row (s.index r))))

/-- `MGETC` (R233). -/
def execMgetc (d : VSlot) (b : MSlot) (c : XReg) (s : State) : Host.Outcome State Fault Refusal :=
  finish s <|
    withM s b fun m =>
    require (decide (s.index c < m.cols)) .indexOutOfRange <|
    .ok (s.setV d (some (m.col (s.index c))))

/-- `MSETR` (R234). -/
def execMsetr (a : MSlot) (r : XReg) (b : VSlot) (s : State) : Host.Outcome State Fault Refusal :=
  finish s <|
    withM s a fun m =>
    withV s b fun v =>
    require (decide (v.length = m.cols)) .dimensionMismatch <|
    require (decide (s.index r < m.rows)) .indexOutOfRange <|
    .ok (s.setM a (some (m.withElems fun i j => if i = s.index r then vecAt v j else m.e i j)))

/-- `MSETC` (R235). -/
def execMsetc (a : MSlot) (c : XReg) (b : VSlot) (s : State) : Host.Outcome State Fault Refusal :=
  finish s <|
    withM s a fun m =>
    withV s b fun v =>
    require (decide (v.length = m.rows)) .dimensionMismatch <|
    require (decide (s.index c < m.cols)) .indexOutOfRange <|
    .ok (s.setM a (some (m.withElems fun i j => if j = s.index c then vecAt v i else m.e i j)))

/-- `MCOPY` (R236). -/
def execMcopy (d b : MSlot) (rep : ReprCode) (s : State) : Host.Outcome State Fault Refusal :=
  finish s <| withM s b fun m => .ok (s.setM d (some (newMatrix m.rows m.cols (reprOf rep m.repr) m.e)))

/-- `MSWPR` (R237). -/
def execMswpr (a : MSlot) (b c : XReg) (s : State) : Host.Outcome State Fault Refusal :=
  finish s <|
    withM s a fun m =>
    require (decide (s.index b < m.rows ∧ s.index c < m.rows)) .indexOutOfRange <|
    .ok (s.setM a (some (m.swapRows (s.index b) (s.index c))))

/-- `MSWPC` (R238). -/
def execMswpc (a : MSlot) (b c : XReg) (s : State) : Host.Outcome State Fault Refusal :=
  finish s <|
    withM s a fun m =>
    require (decide (s.index b < m.cols ∧ s.index c < m.cols)) .indexOutOfRange <|
    .ok (s.setM a (some (m.swapCols (s.index b) (s.index c))))

/-- `MTRN` (R239). -/
def execMtrn (d b : MSlot) (rep : ReprCode) (s : State) : Host.Outcome State Fault Refusal :=
  finish s <|
    withM s b fun m => .ok (s.setM d (some (newMatrix m.cols m.rows (reprOf rep m.repr) fun i j => m.e j i)))

/-- `MROT` (R240): a quarter turn clockwise. -/
def execMrot (d b : MSlot) (rep : ReprCode) (s : State) : Host.Outcome State Fault Refusal :=
  finish s <|
    withM s b fun m =>
    .ok (s.setM d (some (newMatrix m.cols m.rows (reprOf rep m.repr) fun i j => m.e (m.rows - 1 - j) i)))

/-- The slice of R241: rows [r0, r1), columns [c0, c1). R242 and R243 are its anchored forms. -/
def sliceInto (d b : MSlot) (r0 c0 r1 c1 : ByteMatrix → Nat) (s : State) : Result :=
  withM s b fun m =>
  require (rectOk m (r0 m) (c0 m) (r1 m) (c1 m)) .indexOutOfRange <|
  .ok (s.setM d (some (newMatrix (r1 m - r0 m) (c1 m - c0 m) m.repr fun i j => m.e (r0 m + i) (c0 m + j))))

/-- `MSLICE` (R241). -/
def execMslice (d b : MSlot) (r0 c0 r1 c1 : XReg) (s : State) : Host.Outcome State Fault Refusal :=
  finish s (sliceInto d b (fun _ => s.index r0) (fun _ => s.index c0) (fun _ => s.index r1) (fun _ => s.index c1) s)

/-- `MSLTL` (R242): r0 = c0 = 0. -/
def execMsltl (d b : MSlot) (r1 c1 : XReg) (s : State) : Host.Outcome State Fault Refusal :=
  finish s (sliceInto d b (fun _ => 0) (fun _ => 0) (fun _ => s.index r1) (fun _ => s.index c1) s)

/-- `MSLBR` (R243): r1 = rows, c1 = cols. -/
def execMslbr (d b : MSlot) (r0 c0 : XReg) (s : State) : Host.Outcome State Fault Refusal :=
  finish s (sliceInto d b (fun _ => s.index r0) (fun _ => s.index c0) ByteMatrix.rows ByteMatrix.cols s)

/-- `MSEL` (R244): duplicates allowed; `IndexOutOfRange` before `CapacityExceeded` (R376). -/
def execMsel (d b : MSlot) (c e : PSlot) (s : State) : Host.Outcome State Fault Refusal :=
  finish s <|
    withM s b fun m =>
    withP s c fun pr =>
    withP s e fun pc =>
    require (entriesBelow pr m.rows && entriesBelow pc m.cols) .indexOutOfRange <|
    require (decide (pr.length ≤ s.params.mMaxDim ∧ pc.length ≤ s.params.mMaxDim)) .capacityExceeded <|
    .ok (s.setM d (some (newMatrix pr.length pc.length m.repr
      fun i j => m.e (indexAt pr i).toNat (indexAt pc j).toNat)))

/-- `MSELR` (R245). -/
def execMselr (d b : MSlot) (c : PSlot) (s : State) : Host.Outcome State Fault Refusal :=
  finish s <|
    withM s b fun m =>
    withP s c fun pr =>
    require (entriesBelow pr m.rows) .indexOutOfRange <|
    require (decide (pr.length ≤ s.params.mMaxDim)) .capacityExceeded <|
    .ok (s.setM d (some (newMatrix pr.length m.cols m.repr fun i j => m.e (indexAt pr i).toNat j)))

/-- `MSELC` (R246). -/
def execMselc (d b : MSlot) (c : PSlot) (s : State) : Host.Outcome State Fault Refusal :=
  finish s <|
    withM s b fun m =>
    withP s c fun pc =>
    require (entriesBelow pc m.cols) .indexOutOfRange <|
    require (decide (pc.length ≤ s.params.mMaxDim)) .capacityExceeded <|
    .ok (s.setM d (some (newMatrix m.rows pc.length m.repr fun i j => m.e i (indexAt pc j).toNat)))

/-- A reading command over a rectangle: `X[A] <- f(elements)` (R247, R278, R279). -/
def readRect (d : XReg) (b : MSlot) (r0 c0 r1 c1 : XReg) (f : List Byte → Word) (s : State) : Result :=
  withM s b fun m =>
  require (rectOk m (s.index r0) (s.index c0) (s.index r1) (s.index c1)) .indexOutOfRange <|
  .ok (s.setX d (f (m.rectElems (s.index r0) (s.index c0) (s.index r1) (s.index c1))))

/-- `MNNZ` (R247). -/
def execMnnz (d : XReg) (b : MSlot) (r0 c0 r1 c1 : XReg) (s : State) : Host.Outcome State Fault Refusal :=
  finish s (readRect d b r0 c0 r1 c1 (fun ts => countWord (countNonzero ts)) s)

end Sys2Proof.Machine
end

