-- ==== Sys2Proof/Machine/MatrixArith.lean ====
section
/-! DEFINITION. Byte-matrix arithmetic, update, fold and predicate commands (45_matrix_arith.md). -/

namespace Sys2Proof.Machine

/-- The element-wise binary form of R263 and R268. -/
def matrixBinary (f : Byte → Byte → Byte) (d b c : MSlot) (rep : ReprCode) (s : State) : Result :=
  withM s b fun m =>
  withM s c fun n =>
  require (decide (m.rows = n.rows ∧ m.cols = n.cols)) .dimensionMismatch <|
  .ok (s.setM d (some (newMatrix m.rows m.cols (reprOf rep m.repr) fun i j => f (m.e i j) (n.e i j))))

/-- The scalar form of R264 to R266: element (i, j) becomes f of itself. -/
def matrixMap (f : Byte → Byte) (d : MSlot) (m : ByteMatrix) (rep : ReprCode) (s : State) : Result :=
  .ok (s.setM d (some (newMatrix m.rows m.cols (reprOf rep m.repr) fun i j => f (m.e i j))))

/-- `MADD` (R263). -/
def execMadd (d b c : MSlot) (rep : ReprCode) (s : State) : Host.Outcome State Fault Refusal :=
  finish s (matrixBinary gfAdd d b c rep s)

/-- `MADDS` (R264): added to every element, zeros included. -/
def execMadds (d b : MSlot) (c : XReg) (rep : ReprCode) (s : State) : Host.Outcome State Fault Refusal :=
  finish s <| withM s b fun m => matrixMap (fun t => gfAdd t (s.element c)) d m rep s

/-- `MMULS` (R265). -/
def execMmuls (d b : MSlot) (c : XReg) (rep : ReprCode) (s : State) : Host.Outcome State Fault Refusal :=
  finish s <| withM s b fun m => matrixMap (fun t => gfMul (s.element c) t) d m rep s

/-- `MDIVS` (R266): `DivisionByZero` even when the matrix has no elements (D37). -/
def execMdivs (d b : MSlot) (c : XReg) (rep : ReprCode) (s : State) : Host.Outcome State Fault Refusal :=
  finish s <|
    withM s b fun m =>
    require (s.element c != 0) .divisionByZero <|
    matrixMap (fun t => gfDivNz t (s.element c)) d m rep s

/-- `MMUL` (R267). -/
def execMmul (d b c : MSlot) (rep : ReprCode) (s : State) : Host.Outcome State Fault Refusal :=
  finish s <|
    withM s b fun m =>
    withM s c fun n =>
    require (decide (m.cols = n.rows)) .dimensionMismatch <|
    .ok (s.setM d (some (ByteMatrix.mul (reprOf rep m.repr) m n)))

/-- `MHAD` (R268). -/
def execMhad (d b c : MSlot) (rep : ReprCode) (s : State) : Host.Outcome State Fault Refusal :=
  finish s (matrixBinary gfMul d b c rep s)

/-- `MPOW` (R269): the exponent is the whole register, not reduced. -/
def execMpow (d b : MSlot) (n : XReg) (rep : ReprCode) (s : State) : Host.Outcome State Fault Refusal :=
  finish s <|
    withM s b fun m =>
    require (decide (m.rows = m.cols)) .dimensionMismatch <|
    .ok (s.setM d (some (ByteMatrix.powBits (reprOf rep m.repr) m 32 (s.index n))))

/-- `MMULV` (R270). -/
def execMmulv (d : VSlot) (b : MSlot) (c : VSlot) (s : State) : Host.Outcome State Fault Refusal :=
  finish s <|
    withM s b fun m =>
    withV s c fun v =>
    require (decide (m.cols = v.length)) .dimensionMismatch <|
    .ok (s.setV d (some (newVector m.rows fun i =>
      gfSum ((List.range m.cols).map fun k => gfMul (m.e i k) (vecAt v k)))))

/-- `VMULM` (R271). -/
def execVmulm (d b : VSlot) (c : MSlot) (s : State) : Host.Outcome State Fault Refusal :=
  finish s <|
    withV s b fun v =>
    withM s c fun m =>
    require (decide (v.length = m.rows)) .dimensionMismatch <|
    .ok (s.setV d (some (newVector m.cols fun j =>
      gfSum ((List.range m.rows).map fun k => gfMul (vecAt v k) (m.e k j)))))

/-- The update form of R272: `op` on the elements of a rectangle, with `nz` only where the element was not 0. -/
def updateRect (op : Byte → Byte → Byte) (nz : Bool) (a : MSlot) (b r0 c0 r1 c1 : XReg) (s : State) : Result :=
  withM s a fun m =>
  require (rectOk m (s.index r0) (s.index c0) (s.index r1) (s.index c1)) .indexOutOfRange <|
  .ok (s.setM a (some (m.withElems fun i j =>
    if inRect (s.index r0) (s.index c0) (s.index r1) (s.index c1) i j && (!nz || m.e i j != 0)
    then op (m.e i j) (s.element b) else m.e i j)))

/-- `MUSET` (R272): op(x, s) = s. -/
def execMuset (a : MSlot) (b r0 c0 r1 c1 : XReg) (s : State) : Host.Outcome State Fault Refusal :=
  finish s (updateRect (fun _ c => c) false a b r0 c0 r1 c1 s)

/-- `MUXOR` (R273). -/
def execMuxor (a : MSlot) (b r0 c0 r1 c1 : XReg) (s : State) : Host.Outcome State Fault Refusal :=
  finish s (updateRect gfAdd false a b r0 c0 r1 c1 s)

/-- `MUMUL` (R274). -/
def execMumul (a : MSlot) (b r0 c0 r1 c1 : XReg) (s : State) : Host.Outcome State Fault Refusal :=
  finish s (updateRect gfMul false a b r0 c0 r1 c1 s)

/-- `MUSETNZ` (R275). -/
def execMusetnz (a : MSlot) (b r0 c0 r1 c1 : XReg) (s : State) : Host.Outcome State Fault Refusal :=
  finish s (updateRect (fun _ c => c) true a b r0 c0 r1 c1 s)

/-- `MUXORNZ` (R276). -/
def execMuxornz (a : MSlot) (b r0 c0 r1 c1 : XReg) (s : State) : Host.Outcome State Fault Refusal :=
  finish s (updateRect gfAdd true a b r0 c0 r1 c1 s)

/-- `MUMULNZ` (R277). -/
def execMumulnz (a : MSlot) (b r0 c0 r1 c1 : XReg) (s : State) : Host.Outcome State Fault Refusal :=
  finish s (updateRect gfMul true a b r0 c0 r1 c1 s)

/-- `MFSUM` (R278). -/
def execMfsum (d : XReg) (b : MSlot) (r0 c0 r1 c1 : XReg) (s : State) : Host.Outcome State Fault Refusal :=
  finish s (readRect d b r0 c0 r1 c1 (fun ts => zextByte (gfSum ts)) s)

/-- `MFPROD` (R279). -/
def execMfprod (d : XReg) (b : MSlot) (r0 c0 r1 c1 : XReg) (s : State) : Host.Outcome State Fault Refusal :=
  finish s (readRect d b r0 c0 r1 c1 (fun ts => zextByte (gfProd ts)) s)

/-- `MIS` (R280). -/
def execMis (d : XReg) (b : MSlot) (prd : PredCode) (s : State) : Host.Outcome State Fault Refusal :=
  finish s <| withM s b fun m => .ok (s.setX d (if predHolds prd m then 1 else 0))

/-- `MNON` (R281). -/
def execMnon (d : XReg) (b : MSlot) (prd : PredCode) (s : State) : Host.Outcome State Fault Refusal :=
  finish s <| withM s b fun m => .ok (s.setX d (if predHolds prd m then 0 else 1))

end Sys2Proof.Machine
end

