-- ==== Sys2Proof/Machine/Solver.lean ====
section
/-! DEFINITION. The intermediate-symbol solver (47_solver.md). R333 and R334 are normative: R337 says "A build may use
any method whose results satisfy rule R333 and rule R334". -/

namespace Sys2Proof.Machine

/-- The N × L coefficient matrix of the collected rows (R333). -/
def coefficientMatrix (l : Nat) (rows : List (List Byte × List Byte)) : ByteMatrix :=
  newMatrix rows.length l .denseRow fun k j => vecAt (rows.getD k ([], [])).1 j

/-- The N × T symbol matrix of the collected rows (R333). -/
def symbolMatrix (t : Nat) (rows : List (List Byte × List Byte)) : ByteMatrix :=
  newMatrix rows.length t .denseRow fun k j => vecAt (rows.getD k ([], [])).2 j

/-- The system [A | D] of the collected rows. -/
def collectedSystem (l t : Nat) (rows : List (List Byte × List Byte)) : Augmented :=
  { a := coefficientMatrix l rows, d := some (symbolMatrix t rows), pr := none, pc := none }

/-- Gauss-Jordan on the collected rows in the given order: the first L rows of the reduced D when the rank is L, nothing
otherwise. The pivot rows are an L-row set S with an invertible submatrix, and the answer solves A_S·X = D_S. -/
def solveInOrder (l t : Nat) (rows : List (List Byte × List Byte)) : Option (List (List Byte)) :=
  let r := gaussJordan 0 (List.range l) (collectedSystem l t rows)
  if r.2 = l then some ((List.range l).map fun i => newVector t ((r.1.d.getD (symbolMatrix t rows)).e i)) else none

/-- Whether X, as its rows, satisfies A·X = D (R333(a)). -/
def solves (l t : Nat) (rows : List (List Byte × List Byte)) (sol : List (List Byte)) : Bool :=
  rows.all fun row => (List.range t).all fun j =>
    gfSum ((List.range l).map fun k => gfMul (vecAt row.1 k) (vecAt (sol.getD k []) j)) == vecAt row.2 j

/-- The rows named first by `order`, then the rest: any order of the rows at all, for some `order`. -/
def reorder (rows : List (List Byte × List Byte)) (order : List Nat) : List (List Byte × List Byte) :=
  let first := (order.filter fun k => decide (k < rows.length)).dedup
  let rest := (List.range rows.length).filter fun k => !first.contains k
  (first ++ rest).map fun k => rows.getD k ([], [])

/-- `reduce` of R343. Nothing when the rank is below L. Consistent rows: their unique solution (R333(a)). Inconsistent
rows: the solution of some L rows with an invertible submatrix, which L rows being a FREE VALUE that depends on L, T
and the rows only (R333(b), R334; log 5). -/
def solveRows (l t : Nat) (rows : List (List Byte × List Byte)) : Option (List (List Byte)) :=
  match solveInOrder l t rows with
  | none => none
  | some sol =>
    if solves l t rows sol then some sol
    else some ((solveInOrder l t (reorder rows (Config.freeRowOrder l t rows))).getD sol)

/-- `SVINIT` (R340), accepted in every state. -/
def execSvinit (a b : XReg) (s : State) : Host.Outcome State Fault Refusal :=
  finish s <|
    require (decide (1 ≤ s.index a ∧ s.index a ≤ s.params.svMaxL ∧ 1 ≤ s.index b ∧ s.index b ≤ s.params.svMaxT))
      .unsupportedBlockSize <|
    .ok { s with sv := { state := .collecting, l := s.getX a, t := s.getX b, rows := [], sol := [] } }

/-- Whether rows may be added: in `Collecting` and `Failed` (R331). -/
def SvState.acceptsRows (q : SvState) : Bool := q == .collecting || q == .failed

/-- The rows appended, the solver back in `Collecting` (R341, R342). `SV_X` is empty in both states rows are accepted
in (R331, R336), so nothing of it is written. -/
def State.appendRows (s : State) (new : List (List Byte × List Byte)) : State :=
  { s with sv := { s.sv with state := .collecting, rows := s.sv.rows ++ new } }

/-- `SVADDR` (R341): the rows are copies (R332). -/
def execSvaddr (a b : VSlot) (s : State) : Host.Outcome State Fault Refusal :=
  finish s <|
    require s.sv.state.acceptsRows .illegalState <|
    withV s a fun r =>
    withV s b fun y =>
    require (decide (r.length = s.sv.l.toNat ∧ y.length = s.sv.t.toNat)) .dimensionMismatch <|
    require (decide (s.sv.n + 1 ≤ s.params.svMaxRows)) .capacityExceeded <|
    .ok (s.appendRows [(r, y)])

/-- `SVADDM` (R342): row k of A with row k of D. -/
def execSvaddm (a b : MSlot) (s : State) : Host.Outcome State Fault Refusal :=
  finish s <|
    require s.sv.state.acceptsRows .illegalState <|
    withM s a fun m =>
    withM s b fun d =>
    require (decide (m.cols = s.sv.l.toNat ∧ d.cols = s.sv.t.toNat ∧ m.rows = d.rows)) .dimensionMismatch <|
    require (decide (s.sv.n + m.rows ≤ s.params.svMaxRows)) .capacityExceeded <|
    .ok (s.appendRows ((List.range m.rows).map fun k => (m.row k, d.row k)))

/-- Whether `SVRUN` is accepted: in `Collecting`, `Solved` and `Failed` (R331, R343). -/
def SvState.acceptsRun (q : SvState) : Bool := q == .collecting || q == .solved || q == .failed

/-- `SVRUN` (R343). Its failure is `takeFault`'s `InsufficientSymbols`, which commits `Failed` (R336). -/
def execSvrun (s : State) : Host.Outcome State Fault Refusal :=
  finish s <|
    require s.sv.state.acceptsRun .illegalState <|
    require (decide (s.sv.l.toNat ≤ s.sv.n)) .insufficientSymbols <|
    match solveRows s.sv.l.toNat s.sv.t.toNat s.sv.rows with
    | none => .error .insufficientSymbols
    | some sol => .ok { s with sv := { s.sv with state := .solved, sol := sol } }

/-- `SVRES` (R350): a copy of `SV_X` as a `DENSE_ROW` matrix. -/
def execSvres (d : MSlot) (s : State) : Host.Outcome State Fault Refusal :=
  finish s <|
    require (s.sv.state == .solved) .illegalState <|
    .ok (s.setM d (some (newMatrix s.sv.l.toNat s.sv.t.toNat .denseRow fun i j => vecAt (s.sv.sol.getD i []) j)))

/-- `SVSTAT` (R351). -/
def execSvstat (d : XReg) (s : State) : Host.Outcome State Fault Refusal :=
  finish s (.ok (s.setX d (countWord s.sv.state.code)))

/-- `SVROWS` (R352). -/
def execSvrows (d : XReg) (s : State) : Host.Outcome State Fault Refusal :=
  finish s (.ok (s.setX d (countWord s.sv.n)))

/-- `SVABORT` (R353), accepted in every state. -/
def execSvabort (s : State) : Host.Outcome State Fault Refusal :=
  finish s (.ok { s with sv := { state := .idle, l := 0, t := 0, rows := [], sol := [] } })

end Sys2Proof.Machine
end

