-- ==== Sys2Proof/Machine/VectorCommands.lean ====
section
/-! DEFINITION. Byte-vector commands (42_vector.md). Checks stand in the order of 60_exceptions.md R376. -/

namespace Sys2Proof.Machine

/-- `VALLOC` (R164). -/
def execValloc (d : VSlot) (n : XReg) (s : State) : Host.Outcome State Fault Refusal :=
  finish s <|
    require (decide (s.index n ≤ s.params.vMaxLen)) .capacityExceeded <|
    .ok (s.setV d (some (newVector (s.index n) fun _ => 0)))

/-- `VFREE` (R165). -/
def execVfree (d : VSlot) (s : State) : Host.Outcome State Fault Refusal :=
  finish s <| withV s d fun _ => .ok (s.setV d none)

/-- `VLEN` (R166). -/
def execVlen (d : XReg) (b : VSlot) (s : State) : Host.Outcome State Fault Refusal :=
  finish s <| withV s b fun v => .ok (s.setX d (countWord v.length))

/-- `VGET` (R167). -/
def execVget (d : XReg) (b : VSlot) (k : XReg) (s : State) : Host.Outcome State Fault Refusal :=
  finish s <|
    withV s b fun v =>
    require (decide (s.index k < v.length)) .indexOutOfRange <|
    .ok (s.setX d (zextByte (vecAt v (s.index k))))

/-- `VSET` (R168). -/
def execVset (a : VSlot) (k c : XReg) (s : State) : Host.Outcome State Fault Refusal :=
  finish s <|
    withV s a fun v =>
    require (decide (s.index k < v.length)) .indexOutOfRange <|
    .ok (s.setV a (some (newVector v.length fun j => if j = s.index k then s.element c else vecAt v j)))

/-- `VCOPY` (R169). -/
def execVcopy (d b : VSlot) (s : State) : Host.Outcome State Fault Refusal :=
  finish s <| withV s b fun v => .ok (s.setV d (some (newVector v.length (vecAt v))))

/-- `VFILL` (R170). -/
def execVfill (a : VSlot) (b : XReg) (s : State) : Host.Outcome State Fault Refusal :=
  finish s <| withV s a fun v => .ok (s.setV a (some (newVector v.length fun _ => s.element b)))

/-- The element-wise binary form of R171 and R175. -/
def vectorBinary (f : Byte → Byte → Byte) (d b c : VSlot) (s : State) : Result :=
  withV s b fun u =>
  withV s c fun v =>
  require (decide (u.length = v.length)) .dimensionMismatch <|
  .ok (s.setV d (some (newVector u.length fun k => f (vecAt u k) (vecAt v k))))

/-- `VADD` (R171). -/
def execVadd (d b c : VSlot) (s : State) : Host.Outcome State Fault Refusal :=
  finish s (vectorBinary gfAdd d b c s)

/-- `VADDS` (R172). -/
def execVadds (d b : VSlot) (c : XReg) (s : State) : Host.Outcome State Fault Refusal :=
  finish s <|
    withV s b fun v => .ok (s.setV d (some (newVector v.length fun k => gfAdd (vecAt v k) (s.element c))))

/-- `VMULS` (R173). -/
def execVmuls (d b : VSlot) (c : XReg) (s : State) : Host.Outcome State Fault Refusal :=
  finish s <|
    withV s b fun v => .ok (s.setV d (some (newVector v.length fun k => gfMul (s.element c) (vecAt v k))))

/-- `VDIVS` (R174): `DivisionByZero` even when the vector is empty (D37). -/
def execVdivs (d b : VSlot) (c : XReg) (s : State) : Host.Outcome State Fault Refusal :=
  finish s <|
    withV s b fun v =>
    require (s.element c != 0) .divisionByZero <|
    .ok (s.setV d (some (newVector v.length fun k => gfDivNz (vecAt v k) (s.element c))))

/-- `VHAD` (R175). -/
def execVhad (d b c : VSlot) (s : State) : Host.Outcome State Fault Refusal :=
  finish s (vectorBinary gfMul d b c s)

/-- `VAXPY` (R176). -/
def execVaxpy (a b : VSlot) (c : XReg) (s : State) : Host.Outcome State Fault Refusal :=
  finish s <|
    withV s a fun u =>
    withV s b fun v =>
    require (decide (v.length = u.length)) .dimensionMismatch <|
    .ok (s.setV a (some (newVector u.length fun k => gfAdd (vecAt u k) (gfMul (s.element c) (vecAt v k)))))

/-- `VDOT` (R177). -/
def execVdot (d : XReg) (b c : VSlot) (s : State) : Host.Outcome State Fault Refusal :=
  finish s <|
    withV s b fun u =>
    withV s c fun v =>
    require (decide (u.length = v.length)) .dimensionMismatch <|
    .ok (s.setX d (zextByte (gfSum ((List.range u.length).map fun k => gfMul (vecAt u k) (vecAt v k)))))

/-- `VSWP` (R178). -/
def execVswp (a : VSlot) (b c : XReg) (s : State) : Host.Outcome State Fault Refusal :=
  finish s <|
    withV s a fun v =>
    require (decide (s.index b < v.length ∧ s.index c < v.length)) .indexOutOfRange <|
    .ok (s.setV a (some (newVector v.length (swapFn (s.index b) (s.index c) (vecAt v)))))

/-- `VSLICE` (R179). -/
def execVslice (d b : VSlot) (lo hi : XReg) (s : State) : Host.Outcome State Fault Refusal :=
  finish s <|
    withV s b fun v =>
    require (rangeOk (s.index lo) (s.index hi) v.length) .indexOutOfRange <|
    .ok (s.setV d (some (newVector (s.index hi - s.index lo) fun k => vecAt v (s.index lo + k))))

/-- `VNNZ` (R180). -/
def execVnnz (d : XReg) (b : VSlot) (lo hi : XReg) (s : State) : Host.Outcome State Fault Refusal :=
  finish s <|
    withV s b fun v =>
    require (rangeOk (s.index lo) (s.index hi) v.length) .indexOutOfRange <|
    .ok (s.setX d (countWord (countNonzero
      (newVector (s.index hi - s.index lo) fun k => vecAt v (s.index lo + k)))))

/-- `VSEL` (R181). -/
def execVsel (d b : VSlot) (c : PSlot) (s : State) : Host.Outcome State Fault Refusal :=
  finish s <|
    withV s b fun v =>
    withP s c fun p =>
    require (entriesBelow p v.length) .indexOutOfRange <|
    require (decide (p.length ≤ s.params.vMaxLen)) .capacityExceeded <|
    .ok (s.setV d (some (newVector p.length fun k => vecAt v (indexAt p k).toNat)))

end Sys2Proof.Machine
end

