-- ==== Sys2Proof/Machine/Dispatch.lean ====
section
/-! DEFINITION. The meaning of every command: one arm per constructor of Instr, each one direct call. -/

namespace Sys2Proof.Machine

def exec (i : Instr) (s : State) : Host.Outcome State Fault Refusal :=
  match i with
  -- System and scalar-register commands (40_control.md)
  | .nop => Sys2Proof.Machine.execNop s
  | .signal => Sys2Proof.Machine.execSignal s
  | .xli xd imm => Sys2Proof.Machine.execXli xd imm s
  | .xlui xd imm => Sys2Proof.Machine.execXlui xd imm s
  | .xaddi xd xs imm => Sys2Proof.Machine.execXaddi xd xs imm s
  | .xmov xd xs => Sys2Proof.Machine.execXmov xd xs s
  | .xadd xd xa xb => Sys2Proof.Machine.execXadd xd xa xb s
  | .xsub xd xa xb => Sys2Proof.Machine.execXsub xd xa xb s
  -- GF(256) commands (41_gf256.md)
  | .gadd xd xa xb => Sys2Proof.Machine.execGadd xd xa xb s
  | .gmul xd xa xb => Sys2Proof.Machine.execGmul xd xa xb s
  | .gdiv xd xa xb => Sys2Proof.Machine.execGdiv xd xa xb s
  | .ginv xd xa => Sys2Proof.Machine.execGinv xd xa s
  | .gexp xd xa => Sys2Proof.Machine.execGexp xd xa s
  | .glog xd xa => Sys2Proof.Machine.execGlog xd xa s
  | .gpow xd xa xb => Sys2Proof.Machine.execGpow xd xa xb s
  -- Byte-vector commands (42_vector.md)
  | .valloc vd xn => Sys2Proof.Machine.execValloc vd xn s
  | .vfree vd => Sys2Proof.Machine.execVfree vd s
  | .vlen xd vs => Sys2Proof.Machine.execVlen xd vs s
  | .vget xd vs xi => Sys2Proof.Machine.execVget xd vs xi s
  | .vset vd xi xv => Sys2Proof.Machine.execVset vd xi xv s
  | .vcopy vd vs => Sys2Proof.Machine.execVcopy vd vs s
  | .vfill vd xv => Sys2Proof.Machine.execVfill vd xv s
  | .vadd vd va vb => Sys2Proof.Machine.execVadd vd va vb s
  | .vadds vd va xc => Sys2Proof.Machine.execVadds vd va xc s
  | .vmuls vd va xc => Sys2Proof.Machine.execVmuls vd va xc s
  | .vdivs vd va xc => Sys2Proof.Machine.execVdivs vd va xc s
  | .vhad vd va vb => Sys2Proof.Machine.execVhad vd va vb s
  | .vaxpy vd va xc => Sys2Proof.Machine.execVaxpy vd va xc s
  | .vdot xd va vb => Sys2Proof.Machine.execVdot xd va vb s
  | .vswp vd xi xj => Sys2Proof.Machine.execVswp vd xi xj s
  | .vslice vd va xlo xhi => Sys2Proof.Machine.execVslice vd va xlo xhi s
  | .vnnz xd va xlo xhi => Sys2Proof.Machine.execVnnz xd va xlo xhi s
  | .vsel vd va pi => Sys2Proof.Machine.execVsel vd va pi s
  -- Index-list commands (43_index.md)
  | .palloc pd xn => Sys2Proof.Machine.execPalloc pd xn s
  | .pfree pd => Sys2Proof.Machine.execPfree pd s
  | .plen xd ps => Sys2Proof.Machine.execPlen xd ps s
  | .pget xd ps xi => Sys2Proof.Machine.execPget xd ps xi s
  | .pset pd xi xv => Sys2Proof.Machine.execPset pd xi xv s
  | .pswp pd xi xj => Sys2Proof.Machine.execPswp pd xi xj s
  | .pinv pd ps => Sys2Proof.Machine.execPinv pd ps s
  | .pcopy pd ps => Sys2Proof.Machine.execPcopy pd ps s
  -- Matrix store commands (44_matrix_store.md)
  | .malloc md xr xc rep ini => Sys2Proof.Machine.execMalloc md xr xc rep ini s
  | .mfree md => Sys2Proof.Machine.execMfree md s
  | .mrows xd ms => Sys2Proof.Machine.execMrows xd ms s
  | .mcols xd ms => Sys2Proof.Machine.execMcols xd ms s
  | .mrepr xd ms => Sys2Proof.Machine.execMrepr xd ms s
  | .mget xd ms xr xc => Sys2Proof.Machine.execMget xd ms xr xc s
  | .mset md xr xc xv => Sys2Proof.Machine.execMset md xr xc xv s
  | .mgetr vd ms xr => Sys2Proof.Machine.execMgetr vd ms xr s
  | .mgetc vd ms xc => Sys2Proof.Machine.execMgetc vd ms xc s
  | .msetr md xr vs => Sys2Proof.Machine.execMsetr md xr vs s
  | .msetc md xc vs => Sys2Proof.Machine.execMsetc md xc vs s
  | .mcopy md ms rep => Sys2Proof.Machine.execMcopy md ms rep s
  | .mswpr md xi xj => Sys2Proof.Machine.execMswpr md xi xj s
  | .mswpc md xi xj => Sys2Proof.Machine.execMswpc md xi xj s
  | .mtrn md ms rep => Sys2Proof.Machine.execMtrn md ms rep s
  | .mrot md ms rep => Sys2Proof.Machine.execMrot md ms rep s
  | .mslice md ms xr0 xc0 xr1 xc1 => Sys2Proof.Machine.execMslice md ms xr0 xc0 xr1 xc1 s
  | .msltl md ms xr1 xc1 => Sys2Proof.Machine.execMsltl md ms xr1 xc1 s
  | .mslbr md ms xr0 xc0 => Sys2Proof.Machine.execMslbr md ms xr0 xc0 s
  | .msel md ms pr pc => Sys2Proof.Machine.execMsel md ms pr pc s
  | .mselr md ms pr => Sys2Proof.Machine.execMselr md ms pr s
  | .mselc md ms pc => Sys2Proof.Machine.execMselc md ms pc s
  | .mnnz xd ms xr0 xc0 xr1 xc1 => Sys2Proof.Machine.execMnnz xd ms xr0 xc0 xr1 xc1 s
  -- Matrix arithmetic commands (45_matrix_arith.md)
  | .madd md ma mb rep => Sys2Proof.Machine.execMadd md ma mb rep s
  | .madds md ma xc rep => Sys2Proof.Machine.execMadds md ma xc rep s
  | .mmuls md ma xc rep => Sys2Proof.Machine.execMmuls md ma xc rep s
  | .mdivs md ma xc rep => Sys2Proof.Machine.execMdivs md ma xc rep s
  | .mmul md ma mb rep => Sys2Proof.Machine.execMmul md ma mb rep s
  | .mhad md ma mb rep => Sys2Proof.Machine.execMhad md ma mb rep s
  | .mpow md ma xn rep => Sys2Proof.Machine.execMpow md ma xn rep s
  | .mmulv vd ma vb => Sys2Proof.Machine.execMmulv vd ma vb s
  | .vmulm vd va mb => Sys2Proof.Machine.execVmulm vd va mb s
  | .muset md xc xr0 xc0 xr1 xc1 => Sys2Proof.Machine.execMuset md xc xr0 xc0 xr1 xc1 s
  | .muxor md xc xr0 xc0 xr1 xc1 => Sys2Proof.Machine.execMuxor md xc xr0 xc0 xr1 xc1 s
  | .mumul md xc xr0 xc0 xr1 xc1 => Sys2Proof.Machine.execMumul md xc xr0 xc0 xr1 xc1 s
  | .musetnz md xc xr0 xc0 xr1 xc1 => Sys2Proof.Machine.execMusetnz md xc xr0 xc0 xr1 xc1 s
  | .muxornz md xc xr0 xc0 xr1 xc1 => Sys2Proof.Machine.execMuxornz md xc xr0 xc0 xr1 xc1 s
  | .mumulnz md xc xr0 xc0 xr1 xc1 => Sys2Proof.Machine.execMumulnz md xc xr0 xc0 xr1 xc1 s
  | .mfsum xd ms xr0 xc0 xr1 xc1 => Sys2Proof.Machine.execMfsum xd ms xr0 xc0 xr1 xc1 s
  | .mfprod xd ms xr0 xc0 xr1 xc1 => Sys2Proof.Machine.execMfprod xd ms xr0 xc0 xr1 xc1 s
  | .mis xd ms prd => Sys2Proof.Machine.execMis xd ms prd s
  | .mnon xd ms prd => Sys2Proof.Machine.execMnon xd ms prd s
  -- Gaussian-elimination commands (46_gauss.md)
  | .gecfg ma md pr pc fl => Sys2Proof.Machine.execGecfg ma md pr pc fl s
  | .geswpr xi xj => Sys2Proof.Machine.execGeswpr xi xj s
  | .geswpc xi xj => Sys2Proof.Machine.execGeswpc xi xj s
  | .gescl xr xb => Sys2Proof.Machine.execGescl xr xb s
  | .geaxpy xi xr xb => Sys2Proof.Machine.execGeaxpy xi xr xb s
  | .genorm xr xc => Sys2Proof.Machine.execGenorm xr xc s
  | .geelim xr xc xlo xhi => Sys2Proof.Machine.execGeelim xr xc xlo xhi s
  | .gepivf xd xc xlo xhi => Sys2Proof.Machine.execGepivf xd xc xlo xhi s
  | .gepivm xd xr0 xc0 xr1 xc1 => Sys2Proof.Machine.execGepivm xd xr0 xc0 xr1 xc1 s
  | .gerref xd => Sys2Proof.Machine.execGerref xd s
  -- Solver commands (47_solver.md)
  | .svinit xl xt => Sys2Proof.Machine.execSvinit xl xt s
  | .svaddr vr vs => Sys2Proof.Machine.execSvaddr vr vs s
  | .svaddm ma md => Sys2Proof.Machine.execSvaddm ma md s
  | .svrun => Sys2Proof.Machine.execSvrun s
  | .svres md => Sys2Proof.Machine.execSvres md s
  | .svstat xd => Sys2Proof.Machine.execSvstat xd s
  | .svrows xd => Sys2Proof.Machine.execSvrows xd s
  | .svabort => Sys2Proof.Machine.execSvabort s

end Sys2Proof.Machine
end

