-- ==== Sys2Proof/Machine/Mmio.lean ====
section
/-! DEFINITION. The host's accesses to the 4 KiB window (10_state.md R40 to R54; 20_memory.md R70 to R76) and the two
resets (70_reset_and_hazards.md R400 to R402). Offsets are bytes from `MMIO_BASE`. -/

namespace Sys2Proof.Machine

/-- The offset a platform address has in the window, if it lies in it (R73; log 13). -/
def windowOffset (addr : Nat) : Option (BitVec 12) :=
  if Config.mmioBase ≤ addr ∧ addr < Config.mmioBase + 4096 then some (BitVec.ofNat 12 (addr - Config.mmioBase))
  else none

/-- The object the data window reaches (R50). -/
inductive Selected where
  | matrix (m : ByteMatrix)
  | vector (v : List Byte)
  | indexList (p : List Word)
  | nothing
  deriving DecidableEq, Repr

/-- `DWSEL.KIND` 0 matrix, 1 vector, 2 index list, 3 reserved; an `Unallocated` slot holds nothing (R50, R76). -/
def State.selected (s : State) : Selected :=
  match s.dwsel.kind with
  | 0 => match s.getM s.dwsel.slot with
    | some m => .matrix m
    | none => .nothing
  | 1 => match s.getV s.dwsel.slot with
    | some v => .vector v
    | none => .nothing
  | 2 => match s.getP s.dwsel.slot with
    | some p => .indexList p
    | none => .nothing
  | 3 => .nothing

/-- The size of the selected object as a 32-bit value (R53; modulo 2^32, I15). -/
def State.selectedSize (s : State) : Word :=
  match s.selected with
  | .matrix m => countWord (m.rows * m.cols)
  | .vector v => countWord v.length
  | .indexList p => countWord p.length
  | .nothing => 0

/-- Byte o of a matrix in logical row-major order: element (o / cols, o mod cols), 0 beyond the end (R75). -/
def matrixByte (m : ByteMatrix) (o : Nat) : Byte := if o < m.rows * m.cols then m.e (o / m.cols) (o % m.cols) else 0

/-- `{byte_3, byte_2, byte_1, byte_0}`: the byte at `DWADDR` is bits [7:0] (R70, R75). -/
def packBytes (f : Nat → Byte) : Word :=
  BitVec.ofNat 32 ((f 0).toNat + (f 1).toNat * 2 ^ 8 + (f 2).toNat * 2 ^ 16 + (f 3).toNat * 2 ^ 24)

/-- `w[8k+7:8k]` (R75). -/
def wordByte (w : Word) (k : Nat) : Byte := BitVec.ofNat 8 (w.toNat / 2 ^ (8 * k))

/-- An element at byte offset o after a write of w at offset a: one of its four bytes, or the old one (R75). -/
def overwrite (a : Nat) (w : Word) (o : Nat) (old : Byte) : Byte :=
  if a ≤ o ∧ o < a + 4 then wordByte w (o - a) else old

/-- `STATUS.ACCERR` set: a refused host access (R74, R76). -/
def State.refuseAccess (s : State) : State := { s with status := { s.status with accerr := true } }

/-- A `DWDATA` read: refused while busy (R74) or outside the object (R76), else R75. -/
def readDwData (s : State) : Word × State :=
  if s.busy then (0, s.refuseAccess)
  else if s.dwaddr < s.selectedSize then
    match s.selected with
    | .matrix m => (packBytes fun k => matrixByte m (s.dwaddr.toNat + k), { s with dwaddr := s.dwaddr + 4 })
    | .vector v => (packBytes fun k => vecAt v (s.dwaddr.toNat + k), { s with dwaddr := s.dwaddr + 4 })
    | .indexList p => (indexAt p s.dwaddr.toNat, { s with dwaddr := s.dwaddr + 1 })
    | .nothing => (0, s.refuseAccess)
  else (0, s.refuseAccess)

/-- A `DWDATA` write: ignored while busy (R74) or outside the object (R76), else R75. No shape changes. -/
def writeDwData (w : Word) (s : State) : State :=
  if s.busy then s.refuseAccess
  else if s.dwaddr < s.selectedSize then
    match s.selected with
    | .matrix m =>
      { s.setM s.dwsel.slot (some (m.withElems fun i j =>
          overwrite s.dwaddr.toNat w (i * m.cols + j) (m.e i j))) with dwaddr := s.dwaddr + 4 }
    | .vector v =>
      { s.setV s.dwsel.slot (some (newVector v.length fun k =>
          overwrite s.dwaddr.toNat w k (vecAt v k))) with dwaddr := s.dwaddr + 4 }
    | .indexList p =>
      { s.setP s.dwsel.slot (some (newIndex p.length fun k =>
          if k = s.dwaddr.toNat then w else indexAt p k)) with dwaddr := s.dwaddr + 1 }
    | .nothing => s.refuseAccess
  else s.refuseAccess

/-- Whether the command at the head of the queue is `SVRUN`, whose only word is `0x93000000` (R343). -/
def State.headIsSvrun (s : State) : Bool := s.queue.head? == some 0x93000000

/-- `SVSTATE` (R47): `SV_STATE`, but a read made while `SVRUN` executes returns one of 2, 3 or 4, a FREE VALUE
(log 4). -/
def readSvState (during : Bool) (s : State) : Word × State :=
  if during && s.headIsSvrun then (countWord (2 + (Config.freePhase s.draws).val), { s with draws := s.draws + 1 })
  else (countWord s.sv.state.code, s)

/-- The scalar register an offset in `0x040`..`0x07C` names (R49). -/
def windowReg (off : Nat) : XReg := Fin.ofNat 16 ((off - 0x40) / 4)

/-- `DWSEL` as the host reads it (R50). -/
def DwSel.word (d : DwSel) : Word := countWord (d.kind.val + 16 * d.slot.val)

/-- What a write of w leaves in `DWSEL` (R50). -/
def DwSel.ofWord (w : Word) : DwSel := { kind := Fin.ofNat 4 w.toNat, slot := Fin.ofNat 16 (w.toNat / 16) }

/-- An accepted 32-bit read (R40's map). -/
def readWindow (off : Nat) (during : Bool) (s : State) : Word × State :=
  match off with
  | 0x000 => (0x4F525131, s)
  | 0x004 => (0x00010000, s)
  | 0x008 => (s.ctrl.word, s)
  | 0x00C => (s.statusWord, s)
  | 0x010 => (s.causeWord, s)
  | 0x014 => (s.faultCmd, s)
  | 0x018 => (s.faultSeq, s)
  | 0x01C => (s.cmdcnt, s)
  | 0x020 => (0, s)
  | 0x024 => readSvState during s
  | 0x028 => (countWord s.sv.n, s)
  | 0x02C => (s.sv.l, s)
  | 0x030 => (s.sv.t, s)
  | 0x034 => (countWord s.qcount, s)
  | 0x038 => (countWord s.params.qDepth, s)
  | 0x080 => (s.dwsel.word, s)
  | 0x084 => (s.dwaddr, s)
  | 0x088 => readDwData s
  | 0x08C => if s.busy then (0, s.refuseAccess) else (s.selectedSize, s)
  | o =>
    if 0x040 ≤ o ∧ o ≤ 0x07C then
      if s.busy then (0, s.refuseAccess) else (s.getX (windowReg o), s)
    else (0, s)

/-- A push (R46): dropped with `OVERRUN` while `STATUS.FAULT` = 1 or `QCOUNT` = `QDEPTH`, else appended at the tail. A
queue over its depth, which no push makes, drops it too. -/
def push (w : Word) (s : State) : State :=
  if s.status.fault || decide (s.params.qDepth ≤ s.qcount) then { s with status := { s.status with overrun := true } }
  else { s with queue := s.queue ++ [w] }

/-- Either reset (R400, R401): every item of R401's table at its reset value, whatever was executing or queued. The
sizes, and the model's own agenda, response and draw counter, are not the block's state and stay. -/
def resetBlock (s : State) : State :=
  { State.resetWith s.params with agenda := s.agenda, response := s.response, draws := s.draws }

/-- A `CTRL` write: bit 31 performs a soft reset and the other bits of the same write are not applied (R41, R402). -/
def writeCtrl (w : Word) (s : State) : State :=
  if w.getLsbD 31 then resetBlock s else { s with ctrl := Ctrl.ofWord w }

/-- An accepted 32-bit write (R40's map). Read-only and reserved offsets ignore it (R45, R48, R53, R54); `DWSIZE` ignores
it with `ACCERR` while the core is busy (70_reset_and_hazards.md R405(a)). -/
def writeWindow (off : Nat) (w : Word) (s : State) : State :=
  match off with
  | 0x008 => writeCtrl w s
  | 0x00C => acknowledge w s
  | 0x020 => push w s
  | 0x080 => { s with dwsel := DwSel.ofWord w }
  | 0x084 => { s with dwaddr := w }
  | 0x088 => writeDwData w s
  | 0x08C => if s.busy then s.refuseAccess else s
  | o =>
    if 0x040 ≤ o ∧ o ≤ 0x07C then
      if s.busy then s.refuseAccess else s.setX (windowReg o) w
    else s

/-- The block accepts only 32-bit accesses at multiples of 4 (R71). -/
def accessOk (off : BitVec 12) (bytes : Nat) : Bool := decide (bytes = 4 ∧ off.toNat % 4 = 0)

/-- One host access (R71, R72): the new state with the block's answer in `response`. Another width or alignment is a
bus error and changes nothing else. -/
def hostAccess (op : HostOp) (during : Bool) (s : State) : State :=
  match op with
  | .read off bytes =>
    if accessOk off bytes then
      let r := readWindow off.toNat during s
      { r.2 with response := some (.data r.1) }
    else { s with response := some .busError }
  | .write off bytes w =>
    if accessOk off bytes then { writeWindow off.toNat w s with response := some .written }
    else { s with response := some .busError }

end Sys2Proof.Machine
end

