-- ==== Sys2Proof/Machine/Step.lean ====
section
/-! DEFINITION. One step. Two agents act, the core and the host (00_scope.md R4); the agenda says which moves next
(log 2). With nothing on the agenda it is the core's turn. -/

namespace Sys2Proof.Machine

/-- The core's turn: it decodes the word at the head of the queue and executes it; a word that is no command raises
`IllegalCommand` (R109, R111). With an empty queue the core is idle and waits (R403; log 3). -/
def coreStep (s : State) : Host.Outcome State Fault Refusal :=
  match s.queue with
  | [] => .next s
  | w :: _ =>
    match decode w with
    | .ok i => exec i s
    | .error _ => .next (takeFault .illegalCommand s)

/-- One step of the block and its host. -/
def step (s : State) : Host.Outcome State Fault Refusal :=
  match s.agenda with
  | [] => coreStep s
  | .core :: rest => coreStep { s with agenda := rest }
  | .access op during :: rest => .next (hostAccess op during { s with agenda := rest })
  | .together op :: rest => coreStep (hostAccess op true { s with agenda := rest })
  | .hardReset :: rest => .next (resetBlock { s with agenda := rest })

/-- The word in place as the command at the head of the queue, and the core to move next (log 15). -/
def State.withFetchWord (s : State) (nbits w : Nat) : State :=
  { s with queue := BitVec.ofNat 32 (w % 2 ^ nbits) :: s.queue.tail, agenda := .core :: s.agenda }

end Sys2Proof.Machine
end

