-- ==== Sys2Proof/Safety.lean ====
section
/-! DEFINITION. What a safe run is, and the words claims are stated in: the parts a command writes and keeps, its two
ways of ending, the invariant of reachable states, and the mathematics the spec names (the field as polynomials, powers,
sums, reduced row-echelon form), written apart from the machine's own functions. -/

namespace Sys2Proof.Machine

-- What commands write

/-- A piece of the block's state that a command may write. -/
inductive Part where
  | x (n : XReg)
  | m (k : MSlot)
  | v (k : VSlot)
  | p (k : PSlot)
  | ge
  | sv
  | signal
  deriving DecidableEq, Repr

/-- Everything outside `written` is as before: registers, slots, GE context, solver, fault record, `CTRL`, the other
`STATUS` bits, the data window, and the model's own fields. -/
structure Frame (written : List Part) (s t : State) : Prop where
  x : ∀ n, Part.x n ∉ written → t.getX n = s.getX n
  m : ∀ k, Part.m k ∉ written → t.getM k = s.getM k
  v : ∀ k, Part.v k ∉ written → t.getV k = s.getV k
  p : ∀ k, Part.p k ∉ written → t.getP k = s.getP k
  ge : Part.ge ∉ written → t.ge = s.ge
  sv : Part.sv ∉ written → t.sv = s.sv
  signal : Part.signal ∉ written → t.status.signal = s.status.signal
  cause : t.cause = s.cause
  faultCmd : t.faultCmd = s.faultCmd
  faultSeq : t.faultSeq = s.faultSeq
  fault : t.status.fault = s.status.fault
  overrun : t.status.overrun = s.status.overrun
  accerr : t.status.accerr = s.status.accerr
  ctrl : t.ctrl = s.ctrl
  dwsel : t.dwsel = s.dwsel
  dwaddr : t.dwaddr = s.dwaddr
  params : t.params = s.params
  agenda : t.agenda = s.agenda
  response : t.response = s.response
  draws : t.draws = s.draws

/-- A command retired (R22, R31, R42): it left the queue, `CMDCNT` counted it, `DONE` is set if it emptied the queue. -/
structure Retires (s t : State) : Prop where
  queue : t.queue = s.queue.tail
  cmdcnt : t.cmdcnt = s.cmdcnt + 1
  done : t.status.done = (s.status.done || s.queue.tail.isEmpty)

/-- The command runs to its end from s, writes only `written`, and leaves `post`. -/
def Completes (i : Instr) (written : List Part) (post : State → Prop) (s : State) : Prop :=
  ∃ t, exec i s = .next t ∧ Retires s t ∧ Frame written s t ∧ post t

/-- Register d holds w afterwards, or d is `X0` and still reads 0 (R21). -/
def Wrote (d : XReg) (w : Word) (t : State) : Prop := t.getX d = if d = 0 then 0 else w

/-- Fault entry, field by field (R380; for `InsufficientSymbols` R336). -/
structure FaultEntry (c : Cause) (s t : State) : Prop where
  x : t.x = s.x
  m : t.m = s.m
  v : t.v = s.v
  p : t.p = s.p
  ge : t.ge = s.ge
  sv : c ≠ .insufficientSymbols → t.sv = s.sv
  failed : c = .insufficientSymbols → t.sv = { s.sv with state := .failed, sol := [] }
  cause : t.cause = some c
  faultCmd : ∀ w rest, s.queue = w :: rest → t.faultCmd = w
  faultSeq : t.faultSeq = s.cmdcnt
  cmdcnt : t.cmdcnt = s.cmdcnt
  queue : t.queue = []
  fault : t.status.fault = true
  done : t.status.done = s.status.done
  signal : t.status.signal = s.status.signal
  overrun : t.status.overrun = s.status.overrun
  accerr : t.status.accerr = s.status.accerr
  ctrl : t.ctrl = s.ctrl
  dwsel : t.dwsel = s.dwsel
  dwaddr : t.dwaddr = s.dwaddr
  params : t.params = s.params
  agenda : t.agenda = s.agenda
  response : t.response = s.response
  draws : t.draws = s.draws

/-- The command raises c in s. -/
def Faults (i : Instr) (c : Cause) (s : State) : Prop := ∃ t, exec i s = .next t ∧ FaultEntry c s t

/-- A and, when present, D: what a row operation changes (R302). -/
def State.systemParts (s : State) : List Part := .m s.ge.a :: (if s.ge.hasD then [.m s.ge.d] else [])

/-- The row list, when present. -/
def State.rowListPart (s : State) : List Part := if s.ge.hasPR then [.p s.ge.pr] else []

/-- The column list, when present. -/
def State.colListPart (s : State) : List Part := if s.ge.hasPC then [.p s.ge.pc] else []

/-- The parts each command may write, from its rule. Nothing else of the state is a command's to change but the queue,
`CMDCNT`, `DONE` and, on a fault, the record (R33). -/
def writesOf (s : State) : Instr → List Part
  | .nop => []
  | .signal => [.signal]
  | .xli d _ | .xlui d _ | .xaddi d _ _ | .xmov d _ | .xadd d _ _ | .xsub d _ _ => [.x d]
  | .gadd d _ _ | .gmul d _ _ | .gdiv d _ _ | .ginv d _ | .gexp d _ | .glog d _ | .gpow d _ _ => [.x d]
  | .vlen d _ | .vget d _ _ | .vdot d _ _ | .vnnz d _ _ _ => [.x d]
  | .valloc d _ | .vfree d | .vset d _ _ | .vcopy d _ | .vfill d _ | .vadd d _ _ | .vadds d _ _ | .vmuls d _ _
  | .vdivs d _ _ | .vhad d _ _ | .vaxpy d _ _ | .vswp d _ _ | .vslice d _ _ _ | .vsel d _ _ => [.v d]
  | .plen d _ | .pget d _ _ => [.x d]
  | .palloc d _ | .pfree d | .pset d _ _ | .pswp d _ _ | .pinv d _ | .pcopy d _ => [.p d]
  | .mrows d _ | .mcols d _ | .mrepr d _ | .mget d _ _ _ | .mnnz d _ _ _ _ _ => [.x d]
  | .mgetr d _ _ | .mgetc d _ _ | .mmulv d _ _ | .vmulm d _ _ => [.v d]
  | .malloc d _ _ _ _ | .mfree d | .mset d _ _ _ | .msetr d _ _ | .msetc d _ _ | .mcopy d _ _ | .mswpr d _ _
  | .mswpc d _ _ | .mtrn d _ _ | .mrot d _ _ | .mslice d _ _ _ _ _ | .msltl d _ _ _ | .mslbr d _ _ _
  | .msel d _ _ _ | .mselr d _ _ | .mselc d _ _ => [.m d]
  | .madd d _ _ _ | .madds d _ _ _ | .mmuls d _ _ _ | .mdivs d _ _ _ | .mmul d _ _ _ | .mhad d _ _ _
  | .mpow d _ _ _ => [.m d]
  | .muset d _ _ _ _ _ | .muxor d _ _ _ _ _ | .mumul d _ _ _ _ _ | .musetnz d _ _ _ _ _ | .muxornz d _ _ _ _ _
  | .mumulnz d _ _ _ _ _ => [.m d]
  | .mfsum d _ _ _ _ _ | .mfprod d _ _ _ _ _ | .mis d _ _ | .mnon d _ _ => [.x d]
  | .gecfg _ _ _ _ _ => [.ge]
  | .geswpr _ _ => s.systemParts ++ s.rowListPart
  | .geswpc _ _ => .m s.ge.a :: s.colListPart
  | .gescl _ _ | .geaxpy _ _ _ | .genorm _ _ | .geelim _ _ _ _ => s.systemParts
  | .gepivf d _ _ _ | .gepivm d _ _ _ _ => [.x d]
  | .gerref d => .x d :: (s.systemParts ++ s.rowListPart)
  | .svinit _ _ | .svaddr _ _ | .svaddm _ _ | .svrun | .svabort => [.sv]
  | .svres d => [.m d]
  | .svstat d | .svrows d => [.x d]

/-- The "raised by" column of R370, for a command word (so without `IllegalCommand`, which is a word's). -/
def mayRaise (i : Instr) (c : Cause) : Bool :=
  match c with
  | .dimensionMismatch => match i with
    | .vadd _ _ _ | .vhad _ _ _ | .vaxpy _ _ _ | .vdot _ _ _ | .msetr _ _ _ | .msetc _ _ _ | .madd _ _ _ _
    | .mhad _ _ _ _ | .mmul _ _ _ _ | .mpow _ _ _ _ | .mmulv _ _ _ | .vmulm _ _ _ | .gecfg _ _ _ _ _ | .geswpr _ _
    | .geswpc _ _ | .gescl _ _ | .geaxpy _ _ _ | .genorm _ _ | .geelim _ _ _ _ | .gepivf _ _ _ _ | .gepivm _ _ _ _ _
    | .gerref _ | .svaddr _ _ | .svaddm _ _ => true
    | _ => false
  | .indexOutOfRange => match i with
    | .vget _ _ _ | .vset _ _ _ | .vswp _ _ _ | .vslice _ _ _ _ | .vnnz _ _ _ _ | .vsel _ _ _ | .pget _ _ _
    | .pset _ _ _ | .pswp _ _ _ | .mget _ _ _ _ | .mset _ _ _ _ | .mgetr _ _ _ | .mgetc _ _ _ | .msetr _ _ _
    | .msetc _ _ _ | .mswpr _ _ _ | .mswpc _ _ _ | .mslice _ _ _ _ _ _ | .msltl _ _ _ _ | .mslbr _ _ _ _
    | .msel _ _ _ _ | .mselr _ _ _ | .mselc _ _ _ | .mnnz _ _ _ _ _ _ | .muset _ _ _ _ _ _ | .muxor _ _ _ _ _ _
    | .mumul _ _ _ _ _ _ | .musetnz _ _ _ _ _ _ | .muxornz _ _ _ _ _ _ | .mumulnz _ _ _ _ _ _ | .mfsum _ _ _ _ _ _
    | .mfprod _ _ _ _ _ _ | .geswpr _ _ | .geswpc _ _ | .gescl _ _ | .geaxpy _ _ _ | .genorm _ _ | .geelim _ _ _ _
    | .gepivf _ _ _ _ | .gepivm _ _ _ _ _ => true
    | _ => false
  | .divisionByZero => match i with
    | .gdiv _ _ _ | .ginv _ _ | .vdivs _ _ _ | .mdivs _ _ _ _ | .genorm _ _ | .geelim _ _ _ _ => true
    | _ => false
  | .unsupportedBlockSize => match i with
    | .svinit _ _ => true
    | _ => false
  | .insufficientSymbols => match i with
    | .svrun => true
    | _ => false
  | .illegalCommand => false
  | .unallocatedSlot => match i with
    | .nop | .signal | .xli _ _ | .xlui _ _ | .xaddi _ _ _ | .xmov _ _ | .xadd _ _ _ | .xsub _ _ _ | .gadd _ _ _
    | .gmul _ _ _ | .gdiv _ _ _ | .ginv _ _ | .gexp _ _ | .glog _ _ | .gpow _ _ _ | .valloc _ _ | .palloc _ _
    | .malloc _ _ _ _ _ | .svinit _ _ | .svrun | .svres _ | .svstat _ | .svrows _ | .svabort => false
    | _ => true
  | .illegalState => match i with
    | .geswpr _ _ | .geswpc _ _ | .gescl _ _ | .geaxpy _ _ _ | .genorm _ _ | .geelim _ _ _ _ | .gepivf _ _ _ _
    | .gepivm _ _ _ _ _ | .gerref _ | .svaddr _ _ | .svaddm _ _ | .svrun | .svres _ => true
    | _ => false
  | .capacityExceeded => match i with
    | .valloc _ _ | .vsel _ _ _ | .palloc _ _ | .malloc _ _ _ _ _ | .msel _ _ _ _ | .mselr _ _ _ | .mselc _ _ _
    | .svaddr _ _ | .svaddm _ _ => true
    | _ => false
  | .illegalArgument => match i with
    | .glog _ _ | .pinv _ _ | .gecfg _ _ _ _ _ => true
    | _ => false

-- Objects

/-- The slot holds a matrix in canonical form with this shape, tag and elements: one matrix exactly. -/
def HasElems (o : Option ByteMatrix) (rows cols : Nat) (rep : MRepr) (f : Nat → Nat → Byte) : Prop :=
  ∃ w, o = some w ∧ w.wf = true ∧ w.rows = rows ∧ w.cols = cols ∧ w.repr = rep ∧
    ∀ i j, i < rows → j < cols → w.e i j = f i j

/-- The slot holds a vector with this length and these elements. -/
def HasBytes (o : Option (List Byte)) (n : Nat) (f : Nat → Byte) : Prop :=
  ∃ w, o = some w ∧ w.length = n ∧ ∀ k, k < n → w[k]? = some (f k)

/-- The slot holds an index list with this length and these entries. -/
def HasEntries (o : Option (List Word)) (n : Nat) (f : Nat → Word) : Prop :=
  ∃ w, o = some w ∧ w.length = n ∧ ∀ k, k < n → w[k]? = some (f k)

/-- k with i and j exchanged. -/
def exchange (i j k : Nat) : Nat := if k = i then j else if k = j then i else k

/-- The context is valid and names these parts, of fitting shapes, in slots of their own (R300, R301, R304). -/
structure ContextIs (s : State) (a : ByteMatrix) (d : Option ByteMatrix) (pr pc : Option (List Word)) : Prop where
  valid : s.ge.valid = true
  coefficients : s.getM s.ge.a = some a
  rightHand : d = if s.ge.hasD then s.getM s.ge.d else none
  rowList : pr = if s.ge.hasPR then s.getP s.ge.pr else none
  colList : pc = if s.ge.hasPC then s.getP s.ge.pc else none
  dPresent : d.isSome = s.ge.hasD
  prPresent : pr.isSome = s.ge.hasPR
  pcPresent : pc.isSome = s.ge.hasPC
  dRows : ∀ o, d = some o → o.rows = a.rows
  prLength : ∀ o, pr = some o → o.length = a.rows
  pcLength : ∀ o, pc = some o → o.length = a.cols
  dApart : s.ge.hasD = true → s.ge.d ≠ s.ge.a
  listsApart : s.ge.hasPR = true → s.ge.hasPC = true → s.ge.pr ≠ s.ge.pc

/-- A row operation: A, and D when present, change in the same way, f giving element (i, j) from the old matrix
(R302). -/
def RowsChanged (s t : State) (a : ByteMatrix) (d : Option ByteMatrix) (f : ByteMatrix → Nat → Nat → Byte) : Prop :=
  HasElems (t.getM s.ge.a) a.rows a.cols a.repr (f a) ∧
    ∀ o, d = some o → HasElems (t.getM s.ge.d) o.rows o.cols o.repr (f o)

-- The mathematics

/-- The bit pattern times x, reduced by `GF_POLY` = 0x11D (R140, R141). -/
def timesX (a : Byte) : Byte := if a.getLsbD 7 then (a <<< 1) ^^^ 0x1D else a <<< 1

/-- R140: polynomial multiplication of the bit patterns modulo `GF_POLY`. -/
def polyMul (a b : Byte) : Byte :=
  (List.range 8).foldl (fun acc k => if b.getLsbD k then acc ^^^ timesX^[k] a else acc) 0

/-- a multiplied by itself n times (R147). -/
def power (a : Byte) (n : Nat) : Byte := (fun acc => polyMul acc a)^[n] 1

/-- Σ_{k < n} f k · g k, the terms added one after another (R148). -/
def dot (n : Nat) (f g : Nat → Byte) : Byte := (List.range n).foldl (fun acc k => acc ^^^ gfMul (f k) (g k)) 0

/-- The elements of a rectangle met row by row, combined from `start` (R278, R279). -/
def foldRect (op : Byte → Byte → Byte) (start : Byte) (m : ByteMatrix) (r0 c0 r1 c1 : Nat) : Byte :=
  (List.range' r0 (r1 - r0)).foldl
    (fun acc i => (List.range' c0 (c1 - c0)).foldl (fun acc j => op acc (m.e i j)) acc) start

/-- Element (i, j) after an update (R272): changed inside the rectangle, with `nz` only where it was not 0. -/
def updated (m : ByteMatrix) (r0 c0 r1 c1 : Nat) (op : Byte → Byte) (nz : Bool) (i j : Nat) : Byte :=
  if (r0 ≤ i ∧ i < r1 ∧ c0 ≤ j ∧ j < c1) ∧ (nz = true → m.e i j ≠ 0) then op (m.e i j) else m.e i j

/-- How many (i, j) of the rectangle hold a non-zero element (R247). -/
def nonzeroPositions (m : ByteMatrix) (r0 c0 r1 c1 : Nat) : Nat :=
  ((Finset.Ico r0 r1 ×ˢ Finset.Ico c0 c1).filter fun ij => m.e ij.1 ij.2 ≠ 0).card

/-- a^n: the identity of size a.rows, then n products with a on the right (R269). -/
def nthPower (rep : MRepr) (a : ByteMatrix) (n : Nat) : ByteMatrix :=
  (fun acc => ByteMatrix.mul rep acc a)^[n] (newMatrix a.rows a.rows rep identityAt)

/-- R282's table, in its own words. -/
def PredMeans (prd : PredCode) (m : ByteMatrix) : Prop :=
  match prd with
  | .zero => ∀ i j, i < m.rows → j < m.cols → m.e i j = 0
  | .nonzero => ∀ i j, i < m.rows → j < m.cols → m.e i j ≠ 0
  | .one => ∀ i j, i < m.rows → j < m.cols → m.e i j = 1
  | .identity => m.rows = m.cols ∧ ∀ i j, i < m.rows → j < m.cols → m.e i j = if i = j then 1 else 0
  | .diagonal => ∀ i j, i < m.rows → j < m.cols → i ≠ j → m.e i j = 0
  | .upperTriangular => ∀ i j, i < m.rows → j < m.cols → i > j → m.e i j = 0
  | .lowerTriangular => ∀ i j, i < m.rows → j < m.cols → i < j → m.e i j = 0
  | .symmetric => m.rows = m.cols ∧ ∀ i j, i < m.rows → j < m.cols → m.e i j = m.e j i

/-- w is the least i of [lo, hi) with f i, or `0xFFFFFFFF` when there is none (R311, R312). -/
def LeastOrNone (lo hi : Nat) (f : Nat → Prop) (w : Word) : Prop :=
  (∃ i, lo ≤ i ∧ i < hi ∧ f i ∧ (∀ k, lo ≤ k → k < i → ¬ f k) ∧ w = BitVec.ofNat 32 i) ∨
    ((∀ i, lo ≤ i → i < hi → ¬ f i) ∧ w = 0xFFFFFFFF)

/-- `deg(i)` (R312). -/
def degreeOf (m : ByteMatrix) (c0 c1 i : Nat) : Nat := ((Finset.Ico c0 c1).filter fun j => m.e i j ≠ 0).card

/-- Reduced row-echelon form with r non-zero rows (R313): row k < r has its first non-zero element, a 1, in column
`piv k`, that column is 0 elsewhere, the pivot columns rise, and rows from r on are zero. -/
def IsReduced (m : ByteMatrix) (r : Nat) : Prop :=
  ∃ piv : List Nat, piv.length = r ∧ r ≤ m.rows ∧ piv.Pairwise (· < ·) ∧
    (∀ k c, piv[k]? = some c → c < m.cols ∧ (∀ i, i < m.rows → m.e i c = if i = k then 1 else 0) ∧
      ∀ j, j < c → m.e k j = 0) ∧
    ∀ i j, r ≤ i → i < m.rows → j < m.cols → m.e i j = 0

/-- The rows B after R313's work for a pivot in row r and column c of A, k pivot rows placed before it: rows r and k
exchanged, row k scaled by q, and row k times A's element in column c added to every other row (R302). B is A itself, or
D. -/
def pivoted (a : Nat → Nat → Byte) (r k c : Nat) (q : Byte) (b : Nat → Nat → Byte) (i j : Nat) : Byte :=
  if i = k then polyMul q (b r j)
  else b (exchange r k i) j ^^^ polyMul (a (exchange r k i) c) (polyMul q (b r j))

/-- R313's loop on A and D with its columns below c done and k pivot rows placed: what A and D have become, and the row
of the start that each position now holds. Every pivot is the least candidate, and each exchange is made on A, on D and
on the positions together. -/
inductive ReducesTo (rows : Nat) (a₀ d₀ : Nat → Nat → Byte) :
    Nat → Nat → (Nat → Nat → Byte) → (Nat → Nat → Byte) → (Nat → Nat) → Prop where
  | start : ReducesTo rows a₀ d₀ 0 0 a₀ d₀ id
  | skip {c k : Nat} {a d : Nat → Nat → Byte} {σ : Nat → Nat} :
      ReducesTo rows a₀ d₀ c k a d σ → (∀ i, k ≤ i → i < rows → a i c = 0) → ReducesTo rows a₀ d₀ (c + 1) k a d σ
  | pivot {c k r : Nat} {q : Byte} {a d : Nat → Nat → Byte} {σ : Nat → Nat} :
      ReducesTo rows a₀ d₀ c k a d σ → k ≤ r → r < rows → a r c ≠ 0 → (∀ i, k ≤ i → i < r → a i c = 0) →
      polyMul q (a r c) = 1 →
      ReducesTo rows a₀ d₀ (c + 1) (k + 1) (pivoted a r k c q a) (pivoted a r k c q d) fun i => σ (exchange r k i)

/-- x solves A·x = b on the first `m.rows` rows. -/
def Satisfies (m : ByteMatrix) (b x : Nat → Byte) : Prop := ∀ i, i < m.rows → dot m.cols (m.e i) x = b i

/-- The k-th collected row holds for X: Σ_j row[j] · X[j][q] = symbol[q] for every q < T (R333). -/
def RowHolds (l t : Nat) (row : List Byte × List Byte) (x : Nat → Nat → Byte) : Prop :=
  ∀ q, q < t → dot l (vecAt row.1) (fun j => x j q) = vecAt row.2 q

/-- rank(A) = L: no non-zero combination of the columns of the rows' coefficients is zero. -/
def FullRank (l : Nat) (rows : List (List Byte × List Byte)) : Prop :=
  ∀ x : Nat → Byte, (∀ row ∈ rows, dot l (vecAt row.1) x = 0) → ∀ j, j < l → x j = 0

-- The invariant

/-- A matrix in canonical form, within the capacity (R23, R5). -/
def ByteMatrix.fits (c : Params) (m : ByteMatrix) : Bool :=
  m.wf && decide (m.rows ≤ c.mMaxDim ∧ m.cols ≤ c.mMaxDim)

/-- Every object in its canonical form and within its capacity (R5, R23 to R25; log 8). -/
def State.objectsWf (s : State) : Bool :=
  (List.finRange 16).all fun k => (s.getM k).all (ByteMatrix.fits s.params) &&
    (s.getV k).all (fun v => decide (v.length ≤ s.params.vMaxLen)) &&
    (s.getP k).all (fun p => decide (p.length ≤ s.params.pMaxLen))

/-- The solver between commands (R29, R30, R332, R338): a state of R330, sizes within the limits, every row of the
configured lengths, at most `SV_MAX_ROWS` of them, and a solution exactly in `Solved`. -/
def Solver.wf (c : Params) (sv : Solver) : Bool :=
  (match sv.state with
    | .idle => sv.l == 0 && sv.t == 0 && sv.rows.isEmpty && sv.sol.isEmpty
    | .collecting | .failed => sv.sol.isEmpty
    | .solved => sv.sol.length == sv.l.toNat && sv.sol.all (fun r => r.length == sv.t.toNat)
    | _ => false) &&
  (sv.state == .idle ||
    decide (1 ≤ sv.l.toNat ∧ sv.l.toNat ≤ c.svMaxL ∧ 1 ≤ sv.t.toNat ∧ sv.t.toNat ≤ c.svMaxT)) &&
  decide (sv.rows.length ≤ c.svMaxRows) &&
  sv.rows.all fun row => row.1.length == sv.l.toNat && row.2.length == sv.t.toNat

/-- The GE context (R28, R304): all 0 until set, an absent part names slot 0, D is not A, PR is not PC. -/
def GeContext.wf (g : GeContext) : Bool :=
  (g.valid || (g.a == 0 && !g.hasD && !g.hasPR && !g.hasPC)) &&
  (g.hasD || g.d == 0) && (g.hasPR || g.pr == 0) && (g.hasPC || g.pc == 0) &&
  !(g.hasD && g.d == g.a) && !(g.hasPR && g.hasPC && g.pr == g.pc)

/-- What every reachable state satisfies. -/
structure Inv (s : State) : Prop where
  /-- The sizes meet R5's constraints. -/
  params : s.params.valid = true
  /-- The cell behind `X0` is 0 (R21). -/
  hardwired : s.x[0] = 0
  /-- Objects are canonical and within capacity. -/
  objects : s.objectsWf = true
  /-- The GE context is one `GECFG` can have set. -/
  context : s.ge.wf = true
  /-- The solver is in a state between commands. -/
  solver : s.sv.wf s.params = true
  /-- `SV_X` is what `SVRUN` computes from the rows kept (R332, R334). -/
  solution : s.sv.state = .solved → solveRows s.sv.l.toNat s.sv.t.toNat s.sv.rows = some s.sv.sol
  /-- The queue is within `QDEPTH` (R31). -/
  queue : s.queue.length ≤ s.params.qDepth
  /-- The core is idle while a fault is pending (R381, R382). -/
  faulted : s.status.fault = true → s.queue = []
  /-- Before the first fault the record reads 0 (R44). -/
  record : s.cause = none → s.faultCmd = 0 ∧ s.faultSeq = 0

/-- Every item of R401's table at its reset value, as the host reads the constants. -/
structure IsReset (s : State) : Prop where
  x : ∀ n, s.getX n = 0
  cmdcnt : s.cmdcnt = 0
  m : ∀ k, s.getM k = none
  v : ∀ k, s.getV k = none
  p : ∀ k, s.getP k = none
  ge : s.ge = { valid := false, a := 0, hasD := false, d := 0, hasPR := false, pr := 0, hasPC := false, pc := 0 }
  sv : s.sv = { state := .idle, l := 0, t := 0, rows := [], sol := [] }
  queue : s.queue = []
  qcount : (readWindow 0x034 false s).1 = 0
  cause : s.causeWord = 0
  faultCmd : s.faultCmd = 0
  faultSeq : s.faultSeq = 0
  ctrl : s.ctrl.word = 0
  status : s.statusWord = 0
  dwsel : s.dwsel.word = 0
  dwaddr : s.dwaddr = 0
  irq : s.irq = false
  ident : (readWindow 0x000 false s).1 = 0x4F525131
  version : (readWindow 0x004 false s).1 = 0x00010000
  qdepth : (readWindow 0x038 false s).1 = BitVec.ofNat 32 s.params.qDepth

/-- Every representation tag replaced by `DENSE_ROW`: two states with equal images differ in tags only (R26). -/
def State.untagged (s : State) : State :=
  { s with m := s.m.map (Option.map fun o => { o with repr := .denseRow }) }

/-- A safe run: every step answers a next state in which the invariant holds. -/
def SafeFrom (s : State) : Prop := ∀ n, ∃ t, Host.Core.run core n s = .next t ∧ Inv t

end Sys2Proof.Machine
end

