-- ==== Sys2Proof/Certificates/Slice0/Obligations.lean ====
section
/-! DEFINITION. The statements for the provers. `Completes i written post s` says that i runs to its end from s, that
everything outside `written` is as before (`Frame`), and that `post` holds; `Faults i c s` says that i raises c with
exactly R380's fault entry. Results are stated with plain list and bit-vector functions where the meaning computes with
the machine's own. -/

open Sys2Proof Sys2Proof.Machine

-- Reset, registers and steps

/-- R400, R401, R402: either reset event puts the block into the state of R401, from any state, idle, busy or faulted:
the running command and every queued word are gone, no fault is recorded, and `CTRL` is 0 whatever the write's other
bits. The next push is accepted normally. That the sizes stay is the model's reading (log 1). -/
def Obligations.ResetReachesResetValues : Prop :=
  IsReset State.reset ∧
  (∀ s rest, s.agenda = .hardReset :: rest → ∃ t, step s = .next t ∧ IsReset t ∧ t.params = s.params) ∧
  ∀ s w during rest, w.getLsbD 31 = true → s.agenda = .access (.write 0x008 4 w) during :: rest →
    ∃ t, step s = .next t ∧ IsReset t ∧ t.params = s.params ∧
      ∀ v, 1 ≤ s.params.qDepth → (writeWindow 0x020 v t).queue = [v]

/-- R21, R49: `X0` reads 0 and discards writes; word `0x040 + 4n` is `Xn` while the core is idle; while it is busy a read
returns 0, a write is ignored, and either sets `STATUS.ACCERR`. -/
def Obligations.RegisterWords : Prop :=
  ∀ (s : State) (n : XReg) (w : Word) (during : Bool),
    s.getX 0 = 0 ∧ s.setX 0 w = s ∧
    (n ≠ 0 → (s.setX n w).getX n = w ∧ ∀ k, k ≠ n → (s.setX n w).getX k = s.getX k) ∧
    (s.queue = [] → readWindow (0x040 + 4 * n.val) during s = (s.getX n, s) ∧
      writeWindow (0x040 + 4 * n.val) w s = s.setX n w) ∧
    (s.queue ≠ [] →
      readWindow (0x040 + 4 * n.val) during s = (0, { s with status := { s.status with accerr := true } }) ∧
      writeWindow (0x040 + 4 * n.val) w s = { s with status := { s.status with accerr := true } })

/-- R111, R77: on the core's turn, when the word at the head of the queue decodes to i, the step is exec of i; a word
that does not decode raises `IllegalCommand`; with the queue empty the core waits (R403). The agenda that gives the turns
is the model's (log 2, log 12). -/
def Obligations.StepRunsTheDecodedCommand : Prop :=
  (∀ (s : State) (w : Word) (rest : List Word) (i : Instr), s.queue = w :: rest → decode w = .ok i →
    (s.agenda = [] → step s = exec i s) ∧
    (∀ ev, s.agenda = .core :: ev → step s = exec i { s with agenda := ev })) ∧
  (∀ (s : State) (op : HostOp) (ev : List HostEvent) (w : Word) (rest : List Word) (i : Instr),
    s.agenda = .together op :: ev → (hostAccess op true { s with agenda := ev }).queue = w :: rest →
    decode w = .ok i → step s = exec i (hostAccess op true { s with agenda := ev })) ∧
  (∀ (s : State) (op : HostOp) (during : Bool) (ev : List HostEvent), s.agenda = .access op during :: ev →
    step s = .next (hostAccess op during { s with agenda := ev })) ∧
  (∀ (s : State) (w : Word) (rest : List Word) (e : IllegalWord), s.queue = w :: rest → s.agenda = [] →
    decode w = .error e → step s = .next (takeFault .illegalCommand s)) ∧
  ∀ s : State, s.agenda = [] → s.queue = [] → step s = .next s

/-- R110: every 32-bit word either is the word of exactly one command or raises `IllegalCommand` at the head of the
queue. -/
def Obligations.EveryWordIsOneCommandOrIllegal : Prop :=
  ∀ w : Word,
    (∃ i, i.wellFormed = true ∧ encode i = w ∧ decode w = .ok i ∧
      ∀ j : Instr, j.wellFormed = true → encode j = w → j = i) ∨
    ((∀ i : Instr, i.wellFormed = true → encode i ≠ w) ∧
      ∀ (s : State) (rest : List Word), s.queue = w :: rest →
        ∃ t, coreStep s = .next t ∧ FaultEntry .illegalCommand s t)

/-- Words that the rules and 95_test_vectors.md print decode to the commands they stand for there, one per family, and
words printed as illegal do not decode. -/
def Obligations.ExampleWordsDecode : Prop :=
  decode 0x0A21FFFF = .ok (.xaddi 2 1 0xFFFF) ∧ decode 0x11423000 = .ok (.gmul 4 2 3) ∧
  decode 0x2F314500 = .ok (.vslice 3 1 4 5) ∧ decode 0x3E320000 = .ok (.pinv 3 2) ∧
  decode 0x40232031 = .ok (.malloc 2 3 2 .sparse .identity) ∧ decode 0x71430007 = .ok (.mis 4 3 .symmetric) ∧
  decode 0x80121270 = .ok (.gecfg 1 2 1 2 ⟨true, true, true⟩) ∧ decode 0x93000000 = .ok .svrun ∧
  decode 0x40461040 = .error .illegalCode ∧ decode 0x21901000 = .error .reservedField ∧
  decode 0x80120000 = .error .flagField ∧ decode 0x02000000 = .error .unassignedOpcode

/-- Decoding the word of a well-formed command gives the command back, every operand at every value. -/
def Obligations.DecodeEncode : Prop := ∀ i : Instr, i.wellFormed = true → decode (encode i) = .ok i

/-- The invariant holds after reset. -/
def Obligations.InvHoldsAtReset : Prop := Inv State.reset

/-- Every step keeps the invariant: whatever the core executes and whatever the host does. -/
def Obligations.InvKeptByEveryStep : Prop := ∀ s t : State, Inv s → step s = .next t → Inv t

/-- R408: no step stops, and the queue the core is left alone with (the empty agenda of log 2) is empty after as many
steps as it has words. -/
def Obligations.QueueAlwaysDrains : Prop :=
  (∀ s : State, ∃ t, step s = .next t) ∧
  ∀ s : State, s.agenda = [] → ∃ t, Host.Core.run core s.queue.length s = .next t ∧ t.queue = [] ∧ t.busy = false

/-- R380, R33: a command either retires, writing nothing but what its rule writes, or takes exactly the fault entry of
R380. -/
def Obligations.RetireOrFaultEntry : Prop :=
  ∀ (i : Instr) (s : State),
    (∃ t, exec i s = .next t ∧ Retires s t ∧ Frame (writesOf s i) s t) ∨ ∃ c, Faults i c s

/-- R370: each command raises only the causes whose "raised by" column names it, and the recorded code is the
table's. -/
def Obligations.CausesAsTabled : Prop :=
  (∀ (i : Instr) (c : Cause) (s : State), i.wellFormed = true → Faults i c s → mayRaise i c = true) ∧
  (Cause.code .dimensionMismatch = 1 ∧ Cause.code .indexOutOfRange = 2 ∧ Cause.code .divisionByZero = 3 ∧
    Cause.code .unsupportedBlockSize = 4 ∧ Cause.code .insufficientSymbols = 5 ∧ Cause.code .illegalCommand = 6 ∧
    Cause.code .unallocatedSlot = 7 ∧ Cause.code .illegalState = 8 ∧ Cause.code .capacityExceeded = 9 ∧
    Cause.code .illegalArgument = 10) ∧
  ∀ (s t : State) (c : Cause), FaultEntry c s t → t.causeWord = BitVec.ofNat 32 c.code

/-- R26, R75: the representation tag changes no element, no result, no fault and no limit. On two states that differ in
tags only, a command other than `MREPR` gives states that differ in tags only, and so does every host access, whose
answer (`response`, log 19) is the same. -/
def Obligations.TagsChangeNothing : Prop :=
  (∀ (i : Instr) (s s' t t' : State), (∀ d k, i ≠ .mrepr d k) → s.untagged = s'.untagged →
    exec i s = .next t → exec i s' = .next t' → t.untagged = t'.untagged) ∧
  ∀ (op : HostOp) (during : Bool) (s s' : State), s.untagged = s'.untagged →
    (hostAccess op during s).untagged = (hostAccess op during s').untagged ∧
    (hostAccess op during s).response = (hostAccess op during s').response

-- The host's window

/-- R46: a push is dropped with `OVERRUN` while a fault is pending or the queue is full, else appended at the tail,
unchecked; a read of `CMDQ` returns 0. -/
def Obligations.PushAppendsOrOverruns : Prop :=
  ∀ (s : State) (w : Word) (during : Bool),
    (s.status.fault = true ∨ s.queue.length = s.params.qDepth →
      writeWindow 0x020 w s = { s with status := { s.status with overrun := true } }) ∧
    (s.status.fault = false → s.queue.length < s.params.qDepth →
      writeWindow 0x020 w s = { s with queue := s.queue ++ [w] }) ∧
    readWindow 0x020 during s = (0, s)

/-- R71: an access of another width or at an offset not a multiple of 4 gets a bus error and no effect; any `DWADDR` is
legal. R54: a reserved offset reads 0, ignores writes, and sets no status bit. -/
def Obligations.BusErrorsAndReservedOffsets : Prop :=
  (∀ (s : State) (off : BitVec 12) (bytes : Nat) (w : Word) (during : Bool), bytes ≠ 4 ∨ off.toNat % 4 ≠ 0 →
    hostAccess (.read off bytes) during s = { s with response := some .busError } ∧
    hostAccess (.write off bytes w) during s = { s with response := some .busError }) ∧
  (∀ (s : State) (w : Word), writeWindow 0x084 w s = { s with dwaddr := w }) ∧
  ∀ (s : State) (off : BitVec 12) (w : Word) (during : Bool), off.toNat % 4 = 0 →
    off.toNat = 0x03C ∨ 0x090 ≤ off.toNat →
    hostAccess (.read off 4) during s = { s with response := some (.data 0) } ∧
    hostAccess (.write off 4 w) during s = { s with response := some .written }

/-- R42: a write to `STATUS` clears exactly the W1C bits it writes 1 to; the bits stand where the table puts them; and a
bit whose setting event falls together with the write ends set: `FAULT` for every command that faults and every word
that is no command, `DONE` for every command that retires and empties the queue, `SIGNAL` for `SIGNAL`. The event that
lets them fall together is the model's (log 12). -/
def Obligations.StatusIsWriteOneToClear : Prop :=
  (∀ (s : State) (w : Word) (during : Bool),
    (∀ k, 1 ≤ k → k ≤ 5 → (readWindow 0x00C during (writeWindow 0x00C w s)).1.getLsbD k =
      ((readWindow 0x00C during s).1.getLsbD k && !w.getLsbD k)) ∧
    writeWindow 0x00C w s = { s with status := (writeWindow 0x00C w s).status } ∧
    (readWindow 0x00C during s).1.getLsbD 0 = decide (s.queue ≠ []) ∧
    (readWindow 0x00C during s).1.getLsbD 1 = s.status.fault ∧ (readWindow 0x00C during s).1.getLsbD 2 = s.status.done ∧
    (readWindow 0x00C during s).1.getLsbD 3 = s.status.signal ∧
    (readWindow 0x00C during s).1.getLsbD 4 = s.status.overrun ∧
    (readWindow 0x00C during s).1.getLsbD 5 = s.status.accerr ∧
    ∀ k, 6 ≤ k → (readWindow 0x00C during s).1.getLsbD k = false) ∧
  (∀ (s : State) (w c : Word) (ev : List HostEvent), s.queue = [c] → s.agenda = .together (.write 0x00C 4 w) :: ev →
    (c = 0x00000000 → ∃ t, step s = .next t ∧ t.status.done = true) ∧
    (c = 0x01000000 → ∃ t, step s = .next t ∧ t.status.done = true ∧ t.status.signal = true) ∧
    (c = 0x13100000 → ∃ t, step s = .next t ∧ t.status.fault = true)) ∧
  ∀ (s u : State) (w c : Word) (rest : List Word) (ev : List HostEvent), s.queue = c :: rest →
    s.agenda = .together (.write 0x00C 4 w) :: ev → u = hostAccess (.write 0x00C 4 w) true { s with agenda := ev } →
    (∀ e, decode c = .error e → ∃ t, step s = .next t ∧ FaultEntry .illegalCommand u t ∧ t.status.fault = true) ∧
    ∀ i, decode c = .ok i →
      (∀ e, Faults i e u → ∃ t, step s = .next t ∧ FaultEntry e u t ∧ t.status.fault = true) ∧
      (Completes i (writesOf u i) (fun _ => True) u → ∃ t, step s = .next t ∧ Retires u t ∧
        (rest = [] → t.status.done = true) ∧ (i = .signal → t.status.signal = true))

/-- R383: `IRQ` as a function of the words the host reads at `STATUS` and `CTRL`, with no latch; 0 after reset. -/
def Obligations.IrqFollowsStatusAndEnables : Prop :=
  State.reset.irq = false ∧
  ∀ (s : State) (during : Bool),
    s.irq = (((readWindow 0x00C during s).1.getLsbD 2 && (readWindow 0x008 during s).1.getLsbD 0) ||
      ((readWindow 0x00C during s).1.getLsbD 1 && (readWindow 0x008 during s).1.getLsbD 1) ||
      ((readWindow 0x00C during s).1.getLsbD 3 && (readWindow 0x008 during s).1.getLsbD 2))

/-- R41: a `CTRL` write with bit 31 clear sets the three enables and nothing else; reserved bits and bit 31 read 0; bit
31 resets the block. -/
def Obligations.CtrlHoldsThreeEnables : Prop :=
  ∀ (s : State) (w : Word) (during : Bool),
    (w.getLsbD 31 = false → (readWindow 0x008 during (writeWindow 0x008 w s)).1 = w &&& 7 ∧
      writeWindow 0x008 w s = { s with ctrl := (writeWindow 0x008 w s).ctrl }) ∧
    (w.getLsbD 31 = true → IsReset (writeWindow 0x008 w s)) ∧
    (readWindow 0x008 during s).1 &&& 7 = (readWindow 0x008 during s).1 ∧ (readWindow 0x008 during s).2 = s

/-- R74, R405(a): while busy, reads and writes of `DWDATA` and `DWSIZE` are refused with `ACCERR`, and nothing else
changes; `DWSEL` and `DWADDR` may be read and written. -/
def Obligations.DataWindowLockedWhileBusy : Prop :=
  ∀ (s : State) (w : Word) (during : Bool), s.queue ≠ [] →
    readWindow 0x088 during s = (0, { s with status := { s.status with accerr := true } }) ∧
    readWindow 0x08C during s = (0, { s with status := { s.status with accerr := true } }) ∧
    writeWindow 0x088 w s = { s with status := { s.status with accerr := true } } ∧
    writeWindow 0x08C w s = { s with status := { s.status with accerr := true } } ∧
    readWindow 0x084 during s = (s.dwaddr, s) ∧ writeWindow 0x084 w s = { s with dwaddr := w } ∧
    readWindow 0x080 during (writeWindow 0x080 w s) = (w &&& 0xF3, writeWindow 0x080 w s) ∧
    writeWindow 0x080 w s = { s with dwsel := (writeWindow 0x080 w s).dwsel }

/-- R75, reads: the word at `DWADDR`, little-endian and row-major, 0 beyond the end, and `DWADDR` advanced; one whole
entry of an index list. -/
def Obligations.DataWindowReads : Prop :=
  ∀ (s : State) (during : Bool), s.queue = [] →
    (∀ m, s.dwsel.kind = 0 → s.getM s.dwsel.slot = some m → m.rows * m.cols < 2 ^ 32 →
      s.dwaddr.toNat < m.rows * m.cols →
      (readWindow 0x088 during s).2 = { s with dwaddr := s.dwaddr + 4 } ∧
      ∀ k, k < 4 → ((readWindow 0x088 during s).1 >>> (8 * k)).setWidth 8 =
        if s.dwaddr.toNat + k < m.rows * m.cols
        then m.e ((s.dwaddr.toNat + k) / m.cols) ((s.dwaddr.toNat + k) % m.cols) else 0) ∧
    (∀ v, s.dwsel.kind = 1 → s.getV s.dwsel.slot = some v → v.length < 2 ^ 32 → s.dwaddr.toNat < v.length →
      (readWindow 0x088 during s).2 = { s with dwaddr := s.dwaddr + 4 } ∧
      ∀ k, k < 4 → ((readWindow 0x088 during s).1 >>> (8 * k)).setWidth 8 = (v[s.dwaddr.toNat + k]?).getD 0) ∧
    ∀ p, s.dwsel.kind = 2 → s.getP s.dwsel.slot = some p → p.length < 2 ^ 32 → s.dwaddr.toNat < p.length →
      (readWindow 0x088 during s).2 = { s with dwaddr := s.dwaddr + 1 } ∧
      p[s.dwaddr.toNat]? = some (readWindow 0x088 during s).1

/-- R75, writes: exactly the elements at the word's byte offsets that exist change, no shape changes, and `DWADDR`
advances. -/
def Obligations.DataWindowWrites : Prop :=
  ∀ (s : State) (w : Word), s.queue = [] →
    (∀ m, s.dwsel.kind = 0 → s.getM s.dwsel.slot = some m → m.rows * m.cols < 2 ^ 32 →
      s.dwaddr.toNat < m.rows * m.cols →
      HasElems ((writeWindow 0x088 w s).getM s.dwsel.slot) m.rows m.cols m.repr (fun i j =>
        if s.dwaddr.toNat ≤ i * m.cols + j ∧ i * m.cols + j < s.dwaddr.toNat + 4
        then (w >>> (8 * (i * m.cols + j - s.dwaddr.toNat))).setWidth 8 else m.e i j) ∧
      (∀ k, k ≠ s.dwsel.slot → (writeWindow 0x088 w s).getM k = s.getM k) ∧
      writeWindow 0x088 w s = { s with m := (writeWindow 0x088 w s).m, dwaddr := s.dwaddr + 4 }) ∧
    (∀ v, s.dwsel.kind = 1 → s.getV s.dwsel.slot = some v → v.length < 2 ^ 32 → s.dwaddr.toNat < v.length →
      HasBytes ((writeWindow 0x088 w s).getV s.dwsel.slot) v.length (fun o =>
        if s.dwaddr.toNat ≤ o ∧ o < s.dwaddr.toNat + 4
        then (w >>> (8 * (o - s.dwaddr.toNat))).setWidth 8 else vecAt v o) ∧
      (∀ k, k ≠ s.dwsel.slot → (writeWindow 0x088 w s).getV k = s.getV k) ∧
      writeWindow 0x088 w s = { s with v := (writeWindow 0x088 w s).v, dwaddr := s.dwaddr + 4 }) ∧
    ∀ p, s.dwsel.kind = 2 → s.getP s.dwsel.slot = some p → p.length < 2 ^ 32 → s.dwaddr.toNat < p.length →
      (writeWindow 0x088 w s).getP s.dwsel.slot = some (p.set s.dwaddr.toNat w) ∧
      (∀ k, k ≠ s.dwsel.slot → (writeWindow 0x088 w s).getP k = s.getP k) ∧
      writeWindow 0x088 w s = { s with p := (writeWindow 0x088 w s).p, dwaddr := s.dwaddr + 1 }

/-- R76: `KIND` 3, an `Unallocated` slot, or `DWADDR` ≥ size refuses both accesses with `ACCERR`, and nothing else
changes. R53: the size `DWSIZE` reads while idle. -/
def Obligations.DataWindowRefusals : Prop :=
  ∀ (s : State) (w : Word) (during : Bool), s.queue = [] →
    (∀ size : Nat,
      (s.dwsel.kind = 0 ∧ size = (match s.getM s.dwsel.slot with | some m => m.rows * m.cols | none => 0) ∨
        s.dwsel.kind = 1 ∧ size = (match s.getV s.dwsel.slot with | some v => v.length | none => 0) ∨
        s.dwsel.kind = 2 ∧ size = (match s.getP s.dwsel.slot with | some p => p.length | none => 0) ∨
        s.dwsel.kind = 3 ∧ size = 0) →
      readWindow 0x08C during s = (BitVec.ofNat 32 size, s) ∧
      ((BitVec.ofNat 32 size).toNat ≤ s.dwaddr.toNat →
        readWindow 0x088 during s = (0, { s with status := { s.status with accerr := true } }) ∧
        writeWindow 0x088 w s = { s with status := { s.status with accerr := true } })) ∧
    writeWindow 0x08C w s = s

/-- R47, R30: the solver's registers. `SVSTATE` read while `SVRUN` executes is one of 2, 3, 4; every other read is the
stored state's code of R30. Two clauses are the model's: that such a read advances the counter `draws` of free values
(log 4, DESIGN CHOICE), and that an `SVRUN` at the head counts as executing also when it is about to fault (log 21,
DEDUCED). -/
def Obligations.SolverRegistersRead : Prop :=
  ∀ (s : State) (during : Bool),
    (during = true → s.queue.head? = some (encode .svrun) →
      ((readWindow 0x024 during s).1 = 2 ∨ (readWindow 0x024 during s).1 = 3 ∨ (readWindow 0x024 during s).1 = 4) ∧
      (readWindow 0x024 during s).2 = { s with draws := s.draws + 1 }) ∧
    (during = false ∨ s.queue.head? ≠ some (encode .svrun) →
      (readWindow 0x024 during s).2 = s ∧ (readWindow 0x024 during s).1 = match s.sv.state with
        | .idle => 0 | .collecting => 1 | .reducingPhase1 => 2 | .reducingPhase2 => 3 | .backSubstitution => 4
        | .solved => 5 | .failed => 6) ∧
    readWindow 0x028 during s = (BitVec.ofNat 32 s.sv.rows.length, s) ∧
    readWindow 0x02C during s = (s.sv.l, s) ∧ readWindow 0x030 during s = (s.sv.t, s)

/-- R43, R44, R45, R48: what the record and the counters read as, and that the host cannot write them. R72: while the
core is idle, every register read but `DWDATA`'s leaves the state as it was. -/
def Obligations.RecordAndCountersReadOnly : Prop :=
  (∀ (s : State) (w : Word) (during : Bool),
    readWindow 0x01C during s = (s.cmdcnt, s) ∧
    readWindow 0x034 during s = (BitVec.ofNat 32 s.queue.length, s) ∧
    readWindow 0x038 during s = (BitVec.ofNat 32 s.params.qDepth, s) ∧
    readWindow 0x014 during s = (s.faultCmd, s) ∧ readWindow 0x018 during s = (s.faultSeq, s) ∧
    (readWindow 0x010 during s).1.toNat ≤ 10 ∧ ((readWindow 0x010 during s).1 = 0 ↔ s.cause = none) ∧
    (Inv s → s.cause = none → s.faultCmd = 0 ∧ s.faultSeq = 0) ∧
    ∀ off ∈ [0x000, 0x004, 0x010, 0x014, 0x018, 0x01C, 0x024, 0x028, 0x02C, 0x030, 0x034, 0x038],
      writeWindow off w s = s) ∧
  ∀ (s : State) (off : Nat), s.queue = [] → off ≠ 0x088 → (readWindow off false s).2 = s

-- The field

/-- R141, R142: the recurrence that defines `EXP`, its repetition, that it meets every non-zero byte once, and that
`LOG` is its inverse, with 0 at index 0. -/
def Obligations.RomHoldsPowersAndLogs : Prop :=
  expRom 0 = 1 ∧ (∀ k, k < 254 → expRom (k + 1) = timesX (expRom k)) ∧
  (∀ k, 255 ≤ k → k < 510 → expRom k = expRom (k - 255)) ∧
  (∀ i j, i < 255 → j < 255 → expRom i = expRom j → i = j) ∧
  (∀ a : Byte, a ≠ 0 → logRom a < 255 ∧ expRom (logRom a) = a) ∧ logRom 0 = 0

/-- R140: addition is exclusive or, its own inverse; multiplication is polynomial multiplication modulo 0x11D; 0 and 1
are the identities; the powers of α = 0x02 are all the non-zero elements. -/
def Obligations.FieldIsPolynomialArithmetic : Prop :=
  (∀ a b : Byte, gfAdd a b = a ^^^ b ∧ gfAdd a a = 0 ∧ gfAdd a 0 = a ∧ gfMul a 1 = a ∧ gfMul a b = polyMul a b) ∧
  ∀ a : Byte, a ≠ 0 → ∃ n, n < 255 ∧ power 2 n = a

/-- R157: the laws of the field functions. -/
def Obligations.FieldLaws : Prop :=
  (∀ a : Byte, gfAdd a a = 0) ∧
  (∀ a b q : Byte, b ≠ 0 → (gfDiv a b = .ok q → gfMul b q = a) ∧ gfDiv (gfMul a b) b = .ok a ∧
    ∃ r, gfDiv a b = .ok r) ∧
  (∀ a : Byte, a ≠ 0 → ∃ r, gfInv a = .ok r ∧ gfMul a r = 1) ∧
  (∀ a b c : Byte, gfMul a b = gfMul b a ∧ gfMul (gfMul a b) c = gfMul a (gfMul b c) ∧ gfMul a 1 = a ∧
    gfMul a (gfAdd b c) = gfAdd (gfMul a b) (gfMul a c)) ∧
  (∀ a b : Byte, gfMul a b = 0 ↔ a = 0 ∨ b = 0) ∧
  (∀ a : Byte, a ≠ 0 → (∃ n, gfLog a = .ok n ∧ gfExp n = a) ∧ gfPow a 255 = 1) ∧
  ∀ (a : Byte) (m n : Nat), m + n < 2 ^ 32 → gfPow a (m + n) = gfMul (gfPow a m) (gfPow a n)

/-- R144 to R147: inverse, division, exponential, logarithm and power, with their faults and the rules' examples. -/
def Obligations.FieldFunctions : Prop :=
  gfInv 0 = .error .divisionByZero ∧
  (∀ a r : Byte, a ≠ 0 → (gfInv a = .ok r ↔ gfMul a r = 1) ∧ (gfInv a = .ok r → gfInv r = .ok a)) ∧
  gfInv 1 = .ok 1 ∧ gfInv 0x02 = .ok 0x8E ∧ gfInv 0x53 = .ok 0x8C ∧ gfInv 0xFF = .ok 0xFD ∧
  (∀ a b : Byte, gfDiv a b = match gfInv b with | .ok r => .ok (gfMul a r) | .error c => .error c) ∧
  gfDiv 0x8F 0xCA = .ok 0x53 ∧ gfDiv 0x02 0x80 = .ok 0x36 ∧ gfDiv 0x01 0x02 = .ok 0x8E ∧ gfDiv 0x00 0x07 = .ok 0x00 ∧
  gfDiv 0x00 0x00 = .error .divisionByZero ∧
  (∀ n, gfExp n = power 2 n) ∧ gfLog 0 = .error .illegalArgument ∧
  (∀ (a : Byte) (n : Nat), a ≠ 0 → (gfLog a = .ok n ↔ n < 255 ∧ power 2 n = a)) ∧
  (∀ n, gfLog (gfExp n) = .ok (n % 255)) ∧ gfExp 0xFFFFFFFF = 1 ∧
  gfExp 8 = 0x1D ∧ gfExp 255 = 0x01 ∧ gfExp 256 = 0x02 ∧ gfLog 0x1D = .ok 8 ∧ gfLog 0xFF = .ok 175 ∧
  (∀ (a : Byte) (n : Nat), gfPow a n = power a n) ∧
  gfPow 0x02 8 = 0x1D ∧ gfPow 0x53 2 = 0xD5 ∧ gfPow 0x53 255 = 0x01 ∧ gfPow 0x03 256 = 0x03 ∧ gfPow 0 0 = 1 ∧
  gfPow 0 5 = 0

-- Commands

/-- R104, R105, R107, R161: an element operand is bits [7:0] of its register, an index operand the whole register, and a
`#repr` field names the tag or inherits the source's. -/
def Obligations.OperandForms : Prop :=
  (∀ (s : State) (n : XReg), s.element n = (s.getX n).setWidth 8 ∧ s.index n = (s.getX n).toNat) ∧
  ∀ r : MRepr, reprOf .inherit r = r ∧ reprOf .denseRow r = .denseRow ∧ reprOf .denseCol r = .denseCol ∧
    reprOf .sparse r = .sparse

/-- R121 to R128: the control family completes in every state, with these results, modulo 2^32 (R131). -/
def Obligations.ControlCommandsComplete : Prop :=
  ∀ (s : State) (d a b : XReg) (imm : BitVec 16),
    Completes .nop [] (fun _ => True) s ∧
    Completes .signal [.signal] (fun t => t.status.signal = true) s ∧
    Completes (.xli d imm) [.x d] (Wrote d (imm.setWidth 32)) s ∧
    Completes (.xlui d imm) [.x d] (Wrote d (imm ++ (s.getX d).setWidth 16)) s ∧
    Completes (.xaddi d a imm) [.x d] (Wrote d (s.getX a + imm.signExtend 32)) s ∧
    Completes (.xmov d a) [.x d] (Wrote d (s.getX a)) s ∧
    Completes (.xadd d a b) [.x d] (Wrote d (s.getX a + s.getX b)) s ∧
    Completes (.xsub d a b) [.x d] (Wrote d (s.getX a - s.getX b)) s

/-- R149 to R156: the GF commands read bits [7:0] (the whole exponent), write the byte result zero-extended, and fault
exactly when their function does. -/
def Obligations.GfCommandsCompleteOrFault : Prop :=
  ∀ (s : State) (d a b : XReg),
    Completes (.gadd d a b) [.x d] (Wrote d (((s.getX a ^^^ s.getX b).setWidth 8).setWidth 32)) s ∧
    Completes (.gmul d a b) [.x d]
      (Wrote d ((polyMul ((s.getX a).setWidth 8) ((s.getX b).setWidth 8)).setWidth 32)) s ∧
    ((s.getX b).setWidth 8 ≠ 0#8 → Completes (.gdiv d a b) [.x d] (fun t => ∃ q : Byte,
      Wrote d (q.setWidth 32) t ∧ polyMul q ((s.getX b).setWidth 8) = (s.getX a).setWidth 8) s) ∧
    ((s.getX b).setWidth 8 = 0#8 → Faults (.gdiv d a b) .divisionByZero s) ∧
    ((s.getX a).setWidth 8 ≠ 0#8 → Completes (.ginv d a) [.x d] (fun t => ∃ q : Byte,
      Wrote d (q.setWidth 32) t ∧ polyMul q ((s.getX a).setWidth 8) = 1) s) ∧
    ((s.getX a).setWidth 8 = 0#8 → Faults (.ginv d a) .divisionByZero s) ∧
    Completes (.gexp d a) [.x d] (Wrote d ((power 2 (s.getX a).toNat).setWidth 32)) s ∧
    ((s.getX a).setWidth 8 ≠ 0#8 → Completes (.glog d a) [.x d] (fun t => ∃ n, n < 255 ∧
      Wrote d (BitVec.ofNat 32 n) t ∧ power 2 n = (s.getX a).setWidth 8) s) ∧
    ((s.getX a).setWidth 8 = 0#8 → Faults (.glog d a) .illegalArgument s) ∧
    Completes (.gpow d a b) [.x d]
      (Wrote d ((power ((s.getX a).setWidth 8) (s.getX b).toNat).setWidth 32)) s

/-- R164 to R170, R178: allocation and element access of vectors. -/
def Obligations.VectorAccessCompletes : Prop :=
  ∀ (s : State) (d : VSlot) (x n c : XReg) (u : List Byte),
    (s.index n ≤ s.params.vMaxLen →
      Completes (.valloc d n) [.v d] (fun t => t.getV d = some (List.replicate (s.index n) 0)) s) ∧
    (s.getV d = some u →
      Completes (.vfree d) [.v d] (fun t => t.getV d = none) s ∧
      Completes (.vlen x d) [.x x] (Wrote x (BitVec.ofNat 32 u.length)) s ∧
      (∀ b, u[s.index n]? = some b → Completes (.vget x d n) [.x x] (Wrote x (b.setWidth 32)) s) ∧
      (s.index n < u.length →
        Completes (.vset d n c) [.v d] (fun t => t.getV d = some (u.set (s.index n) (s.element c))) s) ∧
      (∀ k : VSlot, Completes (.vcopy k d) [.v k] (fun t => t.getV k = some u) s) ∧
      Completes (.vfill d c) [.v d] (fun t => t.getV d = some (List.replicate u.length (s.element c))) s ∧
      ∀ b e, u[s.index n]? = some b → u[s.index c]? = some e →
        Completes (.vswp d n c) [.v d] (fun t => t.getV d = some ((u.set (s.index n) e).set (s.index c) b)) s)

/-- R171 to R177: vector arithmetic. -/
def Obligations.VectorArithmeticCompletes : Prop :=
  ∀ (s : State) (d a b : VSlot) (x c : XReg) (u w : List Byte), s.getV a = some u → s.getV b = some w →
    (u.length = w.length →
      Completes (.vadd d a b) [.v d] (fun t => t.getV d = some (List.zipWith (fun p q => p ^^^ q) u w)) s ∧
      Completes (.vhad d a b) [.v d] (fun t => t.getV d = some (List.zipWith polyMul u w)) s ∧
      Completes (.vaxpy a b c) [.v a]
        (fun t => t.getV a = some (List.zipWith (fun y p => y ^^^ polyMul (s.element c) p) u w)) s ∧
      Completes (.vdot x a b) [.x x]
        (Wrote x (((List.zipWith polyMul u w).foldl (fun acc p => acc ^^^ p) 0).setWidth 32)) s) ∧
    Completes (.vadds d a c) [.v d] (fun t => t.getV d = some (u.map fun p => p ^^^ s.element c)) s ∧
    Completes (.vmuls d a c) [.v d] (fun t => t.getV d = some (u.map (polyMul (s.element c)))) s ∧
    (s.element c ≠ 0 → Completes (.vdivs d a c) [.v d]
      (fun t => ∃ q, t.getV d = some q ∧ q.map (polyMul (s.element c)) = u) s)

/-- R179 to R181: slices, counts and selections of vectors. -/
def Obligations.VectorSelectionCompletes : Prop :=
  ∀ (s : State) (d a : VSlot) (i : PSlot) (x lo hi : XReg) (u : List Byte) (p : List Word), s.getV a = some u →
    (s.index lo ≤ s.index hi → s.index hi ≤ u.length →
      Completes (.vslice d a lo hi) [.v d]
        (fun t => t.getV d = some ((u.take (s.index hi)).drop (s.index lo))) s ∧
      Completes (.vnnz x a lo hi) [.x x]
        (Wrote x (BitVec.ofNat 32 (((u.take (s.index hi)).drop (s.index lo)).countP fun t => t ≠ 0))) s) ∧
    (s.getP i = some p → (∀ w ∈ p, w.toNat < u.length) → p.length ≤ s.params.vMaxLen →
      Completes (.vsel d a i) [.v d] (fun t => t.getV d = some (p.map fun w => u.getD w.toNat 0)) s)

/-- R162, R376: when the vector commands fault, and with which cause when several conditions are broken. -/
def Obligations.VectorFaultsInOrder : Prop :=
  ∀ (s : State) (d a b : VSlot) (i : PSlot) (x n c : XReg),
    (s.params.vMaxLen < s.index n → Faults (.valloc d n) .capacityExceeded s) ∧
    (s.getV a = none →
      Faults (.vfree a) .unallocatedSlot s ∧ Faults (.vlen x a) .unallocatedSlot s ∧
      Faults (.vget x a n) .unallocatedSlot s ∧ Faults (.vset a n c) .unallocatedSlot s ∧
      Faults (.vcopy d a) .unallocatedSlot s ∧ Faults (.vfill a c) .unallocatedSlot s ∧
      Faults (.vadd d a b) .unallocatedSlot s ∧ Faults (.vadd d b a) .unallocatedSlot s ∧
      Faults (.vadds d a c) .unallocatedSlot s ∧ Faults (.vmuls d a c) .unallocatedSlot s ∧
      Faults (.vdivs d a c) .unallocatedSlot s ∧ Faults (.vhad d a b) .unallocatedSlot s ∧
      Faults (.vhad d b a) .unallocatedSlot s ∧ Faults (.vaxpy a b c) .unallocatedSlot s ∧
      Faults (.vaxpy b a c) .unallocatedSlot s ∧ Faults (.vdot x a b) .unallocatedSlot s ∧
      Faults (.vdot x b a) .unallocatedSlot s ∧ Faults (.vswp a n c) .unallocatedSlot s ∧
      Faults (.vslice d a n c) .unallocatedSlot s ∧ Faults (.vnnz x a n c) .unallocatedSlot s ∧
      Faults (.vsel d a i) .unallocatedSlot s) ∧
    (s.getP i = none → Faults (.vsel d a i) .unallocatedSlot s) ∧
    ∀ u, s.getV a = some u →
      (∀ w, s.getV b = some w → u.length ≠ w.length →
        Faults (.vadd d a b) .dimensionMismatch s ∧ Faults (.vhad d a b) .dimensionMismatch s ∧
        Faults (.vaxpy a b c) .dimensionMismatch s ∧ Faults (.vdot x a b) .dimensionMismatch s) ∧
      (u.length ≤ s.index n →
        Faults (.vget x a n) .indexOutOfRange s ∧ Faults (.vset a n c) .indexOutOfRange s ∧
        Faults (.vswp a n c) .indexOutOfRange s ∧ Faults (.vswp a c n) .indexOutOfRange s) ∧
      (¬ (s.index n ≤ s.index c ∧ s.index c ≤ u.length) →
        Faults (.vslice d a n c) .indexOutOfRange s ∧ Faults (.vnnz x a n c) .indexOutOfRange s) ∧
      (s.element c = 0 → Faults (.vdivs d a c) .divisionByZero s) ∧
      ∀ p, s.getP i = some p →
        ((∃ w ∈ p, u.length ≤ w.toNat) → Faults (.vsel d a i) .indexOutOfRange s) ∧
        ((∀ w ∈ p, w.toNat < u.length) → s.params.vMaxLen < p.length → Faults (.vsel d a i) .capacityExceeded s)

/-- R201 to R209: index lists, and when their commands fault. -/
def Obligations.IndexCommandsCompleteOrFault : Prop :=
  ∀ (s : State) (d a : PSlot) (x n c : XReg) (p : List Word),
    (s.index n ≤ s.params.pMaxLen → Completes (.palloc d n) [.p d]
      (fun t => t.getP d = some ((List.range (s.index n)).map fun k => BitVec.ofNat 32 k)) s) ∧
    (s.getP a = some p →
      Completes (.pfree a) [.p a] (fun t => t.getP a = none) s ∧
      Completes (.plen x a) [.x x] (Wrote x (BitVec.ofNat 32 p.length)) s ∧
      (∀ w, p[s.index n]? = some w → Completes (.pget x a n) [.x x] (Wrote x w) s) ∧
      (s.index n < p.length →
        Completes (.pset a n c) [.p a] (fun t => t.getP a = some (p.set (s.index n) (s.getX c))) s) ∧
      (∀ v w, p[s.index n]? = some v → p[s.index c]? = some w →
        Completes (.pswp a n c) [.p a] (fun t => t.getP a = some ((p.set (s.index n) w).set (s.index c) v)) s) ∧
      ((p.map BitVec.toNat).Perm (List.range p.length) → Completes (.pinv d a) [.p d]
        (fun t => ∃ q, t.getP d = some q ∧ q.length = p.length ∧
          ∀ (k : Nat) (w : Word), p[k]? = some w → q[w.toNat]? = some (BitVec.ofNat 32 k)) s) ∧
      Completes (.pcopy d a) [.p d] (fun t => t.getP d = some p) s) ∧
    (s.params.pMaxLen < s.index n → Faults (.palloc d n) .capacityExceeded s) ∧
    (s.getP a = none →
      Faults (.pfree a) .unallocatedSlot s ∧ Faults (.plen x a) .unallocatedSlot s ∧
      Faults (.pget x a n) .unallocatedSlot s ∧ Faults (.pset a n c) .unallocatedSlot s ∧
      Faults (.pswp a n c) .unallocatedSlot s ∧ Faults (.pinv d a) .unallocatedSlot s ∧
      Faults (.pcopy d a) .unallocatedSlot s) ∧
    (s.getP a = some p →
      (p.length ≤ s.index n →
        Faults (.pget x a n) .indexOutOfRange s ∧ Faults (.pset a n c) .indexOutOfRange s ∧
        Faults (.pswp a n c) .indexOutOfRange s ∧ Faults (.pswp a c n) .indexOutOfRange s) ∧
      (¬ (p.map BitVec.toNat).Perm (List.range p.length) → Faults (.pinv d a) .illegalArgument s))

/-- R225 to R230, R247: matrix allocation and reading. -/
def Obligations.MatrixAllocationAndReadsComplete : Prop :=
  ∀ (s : State) (d a : MSlot) (x r c r1 c1 : XReg) (rep : ReprCode) (ini : InitCode),
    (s.index r ≤ s.params.mMaxDim → s.index c ≤ s.params.mMaxDim →
      Completes (.malloc d r c rep ini) [.m d] (fun t =>
        HasElems (t.getM d) (s.index r) (s.index c) (reprOf rep .denseRow)
          (fun i j => if ini = .identity ∧ i = j then 1 else 0)) s) ∧
    ∀ m, s.getM a = some m →
      Completes (.mfree a) [.m a] (fun t => t.getM a = none) s ∧
      Completes (.mrows x a) [.x x] (Wrote x (BitVec.ofNat 32 m.rows)) s ∧
      Completes (.mcols x a) [.x x] (Wrote x (BitVec.ofNat 32 m.cols)) s ∧
      Completes (.mrepr x a) [.x x]
        (Wrote x (match m.repr with | .denseRow => 1 | .denseCol => 2 | .sparse => 3)) s ∧
      (s.index r < m.rows → s.index c < m.cols →
        Completes (.mget x a r c) [.x x] (Wrote x ((m.e (s.index r) (s.index c)).setWidth 32)) s) ∧
      (s.index r ≤ s.index r1 → s.index r1 ≤ m.rows → s.index c ≤ s.index c1 → s.index c1 ≤ m.cols →
        Completes (.mnnz x a r c r1 c1) [.x x] (Wrote x (BitVec.ofNat 32
          (nonzeroPositions m (s.index r) (s.index c) (s.index r1) (s.index c1)))) s)

/-- R231 to R238: elements, rows and columns of a matrix in place, and copied out. -/
def Obligations.MatrixRowsAndColumnsComplete : Prop :=
  ∀ (s : State) (a : MSlot) (k : VSlot) (r c y : XReg) (m : ByteMatrix), s.getM a = some m →
    (s.index r < m.rows → s.index c < m.cols → Completes (.mset a r c y) [.m a] (fun t =>
      HasElems (t.getM a) m.rows m.cols m.repr
        (fun i j => if i = s.index r ∧ j = s.index c then s.element y else m.e i j)) s) ∧
    (s.index r < m.rows → Completes (.mgetr k a r) [.v k]
      (fun t => HasBytes (t.getV k) m.cols fun j => m.e (s.index r) j) s) ∧
    (s.index c < m.cols → Completes (.mgetc k a c) [.v k]
      (fun t => HasBytes (t.getV k) m.rows fun i => m.e i (s.index c)) s) ∧
    (∀ v, s.getV k = some v → v.length = m.cols → s.index r < m.rows → Completes (.msetr a r k) [.m a] (fun t =>
      HasElems (t.getM a) m.rows m.cols m.repr fun i j => if i = s.index r then vecAt v j else m.e i j) s) ∧
    (∀ v, s.getV k = some v → v.length = m.rows → s.index c < m.cols → Completes (.msetc a c k) [.m a] (fun t =>
      HasElems (t.getM a) m.rows m.cols m.repr fun i j => if j = s.index c then vecAt v i else m.e i j) s) ∧
    (s.index r < m.rows → s.index c < m.rows → Completes (.mswpr a r c) [.m a] (fun t =>
      HasElems (t.getM a) m.rows m.cols m.repr fun i j => m.e (exchange (s.index r) (s.index c) i) j) s) ∧
    (s.index r < m.cols → s.index c < m.cols → Completes (.mswpc a r c) [.m a] (fun t =>
      HasElems (t.getM a) m.rows m.cols m.repr fun i j => m.e i (exchange (s.index r) (s.index c) j)) s)

/-- R236, R239 to R246: copies, transposes, turns, slices and selections. -/
def Obligations.MatrixRearrangementsComplete : Prop :=
  ∀ (s : State) (d a : MSlot) (pr pc : PSlot) (r0 c0 r1 c1 : XReg) (rep : ReprCode) (m : ByteMatrix)
    (ri ci : List Word), s.getM a = some m →
    Completes (.mcopy d a rep) [.m d] (fun t => HasElems (t.getM d) m.rows m.cols (reprOf rep m.repr) m.e) s ∧
    Completes (.mtrn d a rep) [.m d] (fun t =>
      HasElems (t.getM d) m.cols m.rows (reprOf rep m.repr) fun i j => m.e j i) s ∧
    Completes (.mrot d a rep) [.m d] (fun t =>
      ∃ q, HasElems (t.getM d) m.cols m.rows (reprOf rep m.repr) q ∧
        ∀ i j, i < m.rows → j < m.cols → q j (m.rows - 1 - i) = m.e i j) s ∧
    (s.index r0 ≤ s.index r1 → s.index r1 ≤ m.rows → s.index c0 ≤ s.index c1 → s.index c1 ≤ m.cols →
      Completes (.mslice d a r0 c0 r1 c1) [.m d] (fun t =>
        HasElems (t.getM d) (s.index r1 - s.index r0) (s.index c1 - s.index c0) m.repr
          fun i j => m.e (s.index r0 + i) (s.index c0 + j)) s) ∧
    (s.index r1 ≤ m.rows → s.index c1 ≤ m.cols → Completes (.msltl d a r1 c1) [.m d] (fun t =>
      HasElems (t.getM d) (s.index r1) (s.index c1) m.repr m.e) s) ∧
    (s.index r0 ≤ m.rows → s.index c0 ≤ m.cols → Completes (.mslbr d a r0 c0) [.m d] (fun t =>
      HasElems (t.getM d) (m.rows - s.index r0) (m.cols - s.index c0) m.repr
        fun i j => m.e (s.index r0 + i) (s.index c0 + j)) s) ∧
    (s.getP pr = some ri → (∀ w ∈ ri, w.toNat < m.rows) → ri.length ≤ s.params.mMaxDim →
      Completes (.mselr d a pr) [.m d] (fun t =>
        HasElems (t.getM d) ri.length m.cols m.repr fun i j => m.e (ri.getD i 0).toNat j) s ∧
      (s.getP pc = some ci → (∀ w ∈ ci, w.toNat < m.cols) → ci.length ≤ s.params.mMaxDim →
        Completes (.msel d a pr pc) [.m d] (fun t =>
          HasElems (t.getM d) ri.length ci.length m.repr
            fun i j => m.e (ri.getD i 0).toNat (ci.getD j 0).toNat) s)) ∧
    (s.getP pc = some ci → (∀ w ∈ ci, w.toNat < m.cols) → ci.length ≤ s.params.mMaxDim →
      Completes (.mselc d a pc) [.m d] (fun t =>
        HasElems (t.getM d) m.rows ci.length m.repr fun i j => m.e i (ci.getD j 0).toNat) s)

/-- R223, R224, R376: when the matrix-store commands fault, and with which cause. -/
def Obligations.MatrixStoreFaultsInOrder : Prop :=
  ∀ (s : State) (d a : MSlot) (k : VSlot) (pr pc : PSlot) (x r c r1 c1 : XReg) (rep : ReprCode) (ini : InitCode),
    (s.params.mMaxDim < s.index r ∨ s.params.mMaxDim < s.index c →
      Faults (.malloc d r c rep ini) .capacityExceeded s) ∧
    (s.getM a = none →
      Faults (.mfree a) .unallocatedSlot s ∧ Faults (.mrows x a) .unallocatedSlot s ∧
      Faults (.mcols x a) .unallocatedSlot s ∧ Faults (.mrepr x a) .unallocatedSlot s ∧
      Faults (.mget x a r c) .unallocatedSlot s ∧ Faults (.mset a r c r1) .unallocatedSlot s ∧
      Faults (.mgetr k a r) .unallocatedSlot s ∧ Faults (.mgetc k a c) .unallocatedSlot s ∧
      Faults (.msetr a r k) .unallocatedSlot s ∧ Faults (.msetc a c k) .unallocatedSlot s ∧
      Faults (.mcopy d a rep) .unallocatedSlot s ∧ Faults (.mswpr a r c) .unallocatedSlot s ∧
      Faults (.mswpc a r c) .unallocatedSlot s ∧ Faults (.mtrn d a rep) .unallocatedSlot s ∧
      Faults (.mrot d a rep) .unallocatedSlot s ∧ Faults (.mslice d a r c r1 c1) .unallocatedSlot s ∧
      Faults (.msltl d a r c) .unallocatedSlot s ∧ Faults (.mslbr d a r c) .unallocatedSlot s ∧
      Faults (.msel d a pr pc) .unallocatedSlot s ∧ Faults (.mselr d a pr) .unallocatedSlot s ∧
      Faults (.mselc d a pc) .unallocatedSlot s ∧ Faults (.mnnz x a r c r1 c1) .unallocatedSlot s) ∧
    (s.getV k = none → Faults (.msetr a r k) .unallocatedSlot s ∧ Faults (.msetc a c k) .unallocatedSlot s) ∧
    (s.getP pr = none → Faults (.mselr d a pr) .unallocatedSlot s ∧ Faults (.mselc d a pr) .unallocatedSlot s ∧
      Faults (.msel d a pr pc) .unallocatedSlot s ∧ Faults (.msel d a pc pr) .unallocatedSlot s) ∧
    ∀ m, s.getM a = some m →
      (m.rows ≤ s.index r → Faults (.mget x a r c) .indexOutOfRange s ∧ Faults (.mset a r c r1) .indexOutOfRange s ∧
        Faults (.mgetr k a r) .indexOutOfRange s ∧ Faults (.mswpr a r c) .indexOutOfRange s ∧
        Faults (.mswpr a c r) .indexOutOfRange s) ∧
      (m.cols ≤ s.index c → Faults (.mget x a r c) .indexOutOfRange s ∧ Faults (.mset a r c r1) .indexOutOfRange s ∧
        Faults (.mgetc k a c) .indexOutOfRange s ∧ Faults (.mswpc a r c) .indexOutOfRange s ∧
        Faults (.mswpc a c r) .indexOutOfRange s) ∧
      (∀ v, s.getV k = some v →
        (v.length ≠ m.cols → Faults (.msetr a r k) .dimensionMismatch s) ∧
        (v.length ≠ m.rows → Faults (.msetc a c k) .dimensionMismatch s) ∧
        (v.length = m.cols → m.rows ≤ s.index r → Faults (.msetr a r k) .indexOutOfRange s) ∧
        (v.length = m.rows → m.cols ≤ s.index c → Faults (.msetc a c k) .indexOutOfRange s)) ∧
      (¬ (s.index r ≤ s.index r1 ∧ s.index r1 ≤ m.rows ∧ s.index c ≤ s.index c1 ∧ s.index c1 ≤ m.cols) →
        Faults (.mslice d a r c r1 c1) .indexOutOfRange s ∧ Faults (.mnnz x a r c r1 c1) .indexOutOfRange s) ∧
      (¬ (s.index r ≤ m.rows ∧ s.index c ≤ m.cols) →
        Faults (.msltl d a r c) .indexOutOfRange s ∧ Faults (.mslbr d a r c) .indexOutOfRange s) ∧
      ∀ ri ci, s.getP pr = some ri → s.getP pc = some ci →
        ((∃ w ∈ ri, m.rows ≤ w.toNat) →
          Faults (.mselr d a pr) .indexOutOfRange s ∧ Faults (.msel d a pr pc) .indexOutOfRange s) ∧
        ((∃ w ∈ ci, m.cols ≤ w.toNat) →
          Faults (.mselc d a pc) .indexOutOfRange s ∧ Faults (.msel d a pr pc) .indexOutOfRange s) ∧
        ((∀ w ∈ ri, w.toNat < m.rows) → s.params.mMaxDim < ri.length → Faults (.mselr d a pr) .capacityExceeded s) ∧
        ((∀ w ∈ ci, w.toNat < m.cols) → s.params.mMaxDim < ci.length → Faults (.mselc d a pc) .capacityExceeded s) ∧
        ((∀ w ∈ ri, w.toNat < m.rows) → (∀ w ∈ ci, w.toNat < m.cols) →
          s.params.mMaxDim < ri.length ∨ s.params.mMaxDim < ci.length → Faults (.msel d a pr pc) .capacityExceeded s)

/-- R263 to R266, R268: element-wise matrix arithmetic. -/
def Obligations.MatrixElementwiseCompletes : Prop :=
  ∀ (s : State) (d a b : MSlot) (c : XReg) (rep : ReprCode) (m n : ByteMatrix), s.getM a = some m →
    (s.getM b = some n → m.rows = n.rows → m.cols = n.cols →
      Completes (.madd d a b rep) [.m d] (fun t =>
        HasElems (t.getM d) m.rows m.cols (reprOf rep m.repr) fun i j => m.e i j ^^^ n.e i j) s ∧
      Completes (.mhad d a b rep) [.m d] (fun t =>
        HasElems (t.getM d) m.rows m.cols (reprOf rep m.repr) fun i j => polyMul (m.e i j) (n.e i j)) s) ∧
    Completes (.madds d a c rep) [.m d] (fun t =>
      HasElems (t.getM d) m.rows m.cols (reprOf rep m.repr) fun i j => m.e i j ^^^ s.element c) s ∧
    Completes (.mmuls d a c rep) [.m d] (fun t =>
      HasElems (t.getM d) m.rows m.cols (reprOf rep m.repr) fun i j => polyMul (s.element c) (m.e i j)) s ∧
    (s.element c ≠ 0 → Completes (.mdivs d a c rep) [.m d] (fun t =>
      ∃ q, HasElems (t.getM d) m.rows m.cols (reprOf rep m.repr) q ∧
        ∀ i j, i < m.rows → j < m.cols → polyMul (s.element c) (q i j) = m.e i j) s)

/-- R267, R270, R271: the matrix-matrix, matrix-vector and vector-matrix products. -/
def Obligations.MatrixProductsComplete : Prop :=
  ∀ (s : State) (d a b : MSlot) (k h : VSlot) (rep : ReprCode) (m : ByteMatrix), s.getM a = some m →
    (∀ n, s.getM b = some n → m.cols = n.rows → Completes (.mmul d a b rep) [.m d] (fun t =>
      HasElems (t.getM d) m.rows n.cols (reprOf rep m.repr) fun i j => dot m.cols (m.e i) fun q => n.e q j) s) ∧
    (∀ v, s.getV k = some v → m.cols = v.length → Completes (.mmulv h a k) [.v h] (fun t =>
      HasBytes (t.getV h) m.rows fun i => dot m.cols (m.e i) (vecAt v)) s) ∧
    (∀ v, s.getV k = some v → v.length = m.rows → Completes (.vmulm h k a) [.v h] (fun t =>
      HasBytes (t.getV h) m.cols fun j => dot m.rows (vecAt v) fun q => m.e q j) s)

/-- R269: `MPOW` is the n-fold product, the exponent a whole register and not reduced. -/
def Obligations.MatrixPowerIsRepeatedProduct : Prop :=
  ∀ (s : State) (d a : MSlot) (x : XReg) (rep : ReprCode) (m : ByteMatrix), s.getM a = some m → m.rows = m.cols →
    Completes (.mpow d a x rep) [.m d]
      (fun t => t.getM d = some (nthPower (reprOf rep m.repr) m (s.getX x).toNat)) s

/-- R272 to R277: the six updates change exactly the elements of the rectangle (with NZ the non-zero ones). -/
def Obligations.RectangleUpdatesComplete : Prop :=
  ∀ (s : State) (a : MSlot) (b r0 c0 r1 c1 : XReg) (m : ByteMatrix), s.getM a = some m →
    s.index r0 ≤ s.index r1 → s.index r1 ≤ m.rows → s.index c0 ≤ s.index c1 → s.index c1 ≤ m.cols →
    ∀ f : (Byte → Byte) → Bool → Nat → Nat → Byte,
      f = updated m (s.index r0) (s.index c0) (s.index r1) (s.index c1) →
      Completes (.muset a b r0 c0 r1 c1) [.m a] (fun t =>
        HasElems (t.getM a) m.rows m.cols m.repr (f (fun _ => s.element b) false)) s ∧
      Completes (.muxor a b r0 c0 r1 c1) [.m a] (fun t =>
        HasElems (t.getM a) m.rows m.cols m.repr (f (fun e => e ^^^ s.element b) false)) s ∧
      Completes (.mumul a b r0 c0 r1 c1) [.m a] (fun t =>
        HasElems (t.getM a) m.rows m.cols m.repr (f (fun e => polyMul e (s.element b)) false)) s ∧
      Completes (.musetnz a b r0 c0 r1 c1) [.m a] (fun t =>
        HasElems (t.getM a) m.rows m.cols m.repr (f (fun _ => s.element b) true)) s ∧
      Completes (.muxornz a b r0 c0 r1 c1) [.m a] (fun t =>
        HasElems (t.getM a) m.rows m.cols m.repr (f (fun e => e ^^^ s.element b) true)) s ∧
      Completes (.mumulnz a b r0 c0 r1 c1) [.m a] (fun t =>
        HasElems (t.getM a) m.rows m.cols m.repr (f (fun e => polyMul e (s.element b)) true)) s

/-- R278, R279: the folds over a rectangle; an empty one gives 0 and 1. -/
def Obligations.RectangleFoldsComplete : Prop :=
  ∀ (s : State) (x : XReg) (a : MSlot) (r0 c0 r1 c1 : XReg) (m : ByteMatrix), s.getM a = some m →
    s.index r0 ≤ s.index r1 → s.index r1 ≤ m.rows → s.index c0 ≤ s.index c1 → s.index c1 ≤ m.cols →
    Completes (.mfsum x a r0 c0 r1 c1) [.x x] (Wrote x ((foldRect (fun p q => p ^^^ q) 0 m
      (s.index r0) (s.index c0) (s.index r1) (s.index c1)).setWidth 32)) s ∧
    Completes (.mfprod x a r0 c0 r1 c1) [.x x] (Wrote x ((foldRect polyMul 1 m
      (s.index r0) (s.index c0) (s.index r1) (s.index c1)).setWidth 32)) s

/-- R280 to R283: `MIS` writes 1 exactly when R282's predicate holds, `MNON` the complement, whatever the tag; on a
matrix with no elements every predicate holds but `IDENTITY` and `SYMMETRIC` off the square. -/
def Obligations.PredicatesAsTabled : Prop :=
  (∀ (s : State) (x : XReg) (a : MSlot) (prd : PredCode) (m : ByteMatrix), s.getM a = some m →
    (PredMeans prd m → Completes (.mis x a prd) [.x x] (Wrote x 1) s ∧ Completes (.mnon x a prd) [.x x] (Wrote x 0) s) ∧
    (¬ PredMeans prd m →
      Completes (.mis x a prd) [.x x] (Wrote x 0) s ∧ Completes (.mnon x a prd) [.x x] (Wrote x 1) s)) ∧
  (∀ (prd : PredCode) (m : ByteMatrix) (rep : MRepr), PredMeans prd { m with repr := rep } ↔ PredMeans prd m) ∧
  ∀ (prd : PredCode) (m : ByteMatrix), m.rows * m.cols = 0 →
    (PredMeans prd m ↔ (prd = .identity ∨ prd = .symmetric → m.rows = m.cols))

/-- R261, R262, R376: when the matrix-arithmetic commands fault, and with which cause. -/
def Obligations.MatrixArithmeticFaultsInOrder : Prop :=
  ∀ (s : State) (d a b : MSlot) (k h : VSlot) (x c r0 c0 r1 c1 : XReg) (rep : ReprCode) (prd : PredCode),
    (s.getM a = none →
      Faults (.madd d a b rep) .unallocatedSlot s ∧ Faults (.madd d b a rep) .unallocatedSlot s ∧
      Faults (.madds d a c rep) .unallocatedSlot s ∧ Faults (.mmuls d a c rep) .unallocatedSlot s ∧
      Faults (.mdivs d a c rep) .unallocatedSlot s ∧ Faults (.mmul d a b rep) .unallocatedSlot s ∧
      Faults (.mmul d b a rep) .unallocatedSlot s ∧ Faults (.mhad d a b rep) .unallocatedSlot s ∧
      Faults (.mhad d b a rep) .unallocatedSlot s ∧ Faults (.mpow d a c rep) .unallocatedSlot s ∧
      Faults (.mmulv h a k) .unallocatedSlot s ∧ Faults (.vmulm h k a) .unallocatedSlot s ∧
      Faults (.muset a c r0 c0 r1 c1) .unallocatedSlot s ∧ Faults (.muxor a c r0 c0 r1 c1) .unallocatedSlot s ∧
      Faults (.mumul a c r0 c0 r1 c1) .unallocatedSlot s ∧ Faults (.musetnz a c r0 c0 r1 c1) .unallocatedSlot s ∧
      Faults (.muxornz a c r0 c0 r1 c1) .unallocatedSlot s ∧ Faults (.mumulnz a c r0 c0 r1 c1) .unallocatedSlot s ∧
      Faults (.mfsum x a r0 c0 r1 c1) .unallocatedSlot s ∧ Faults (.mfprod x a r0 c0 r1 c1) .unallocatedSlot s ∧
      Faults (.mis x a prd) .unallocatedSlot s ∧ Faults (.mnon x a prd) .unallocatedSlot s) ∧
    (s.getV k = none → Faults (.mmulv h a k) .unallocatedSlot s ∧ Faults (.vmulm h k a) .unallocatedSlot s) ∧
    ∀ m, s.getM a = some m →
      (∀ n, s.getM b = some n →
        (¬ (m.rows = n.rows ∧ m.cols = n.cols) →
          Faults (.madd d a b rep) .dimensionMismatch s ∧ Faults (.mhad d a b rep) .dimensionMismatch s) ∧
        (m.cols ≠ n.rows → Faults (.mmul d a b rep) .dimensionMismatch s)) ∧
      (m.rows ≠ m.cols → Faults (.mpow d a c rep) .dimensionMismatch s) ∧
      (∀ v, s.getV k = some v → (m.cols ≠ v.length → Faults (.mmulv h a k) .dimensionMismatch s) ∧
        (v.length ≠ m.rows → Faults (.vmulm h k a) .dimensionMismatch s)) ∧
      (s.element c = 0 → Faults (.mdivs d a c rep) .divisionByZero s) ∧
      (¬ (s.index r0 ≤ s.index r1 ∧ s.index r1 ≤ m.rows ∧ s.index c0 ≤ s.index c1 ∧ s.index c1 ≤ m.cols) →
        Faults (.muset a c r0 c0 r1 c1) .indexOutOfRange s ∧ Faults (.muxor a c r0 c0 r1 c1) .indexOutOfRange s ∧
        Faults (.mumul a c r0 c0 r1 c1) .indexOutOfRange s ∧ Faults (.musetnz a c r0 c0 r1 c1) .indexOutOfRange s ∧
        Faults (.muxornz a c r0 c0 r1 c1) .indexOutOfRange s ∧ Faults (.mumulnz a c r0 c0 r1 c1) .indexOutOfRange s ∧
        Faults (.mfsum x a r0 c0 r1 c1) .indexOutOfRange s ∧ Faults (.mfprod x a r0 c0 r1 c1) .indexOutOfRange s)

-- Gaussian elimination

/-- R304: `GECFG` sets the context when every present part is allocated, fits, and stands in a slot of its own, and
raises the first broken check otherwise, keeping the context. -/
def Obligations.GecfgSetsOrFaults : Prop :=
  ∀ (s : State) (a d : MSlot) (pr pc : PSlot) (fl : GeFlags), gecfgFieldsOk d pr pc fl = true →
    (s.getM a = none → Faults (.gecfg a d pr pc fl) .unallocatedSlot s) ∧
    ∀ m, s.getM a = some m →
      ((fl.hasD = true ∧ s.getM d = none) ∨ (fl.hasPR = true ∧ s.getP pr = none) ∨
          (fl.hasPC = true ∧ s.getP pc = none) → Faults (.gecfg a d pr pc fl) .unallocatedSlot s) ∧
      ∀ (dm : ByteMatrix) (rl cl : List Word), (fl.hasD = true → s.getM d = some dm) →
        (fl.hasPR = true → s.getP pr = some rl) → (fl.hasPC = true → s.getP pc = some cl) →
        ((fl.hasD = true ∧ dm.rows ≠ m.rows) ∨ (fl.hasPR = true ∧ rl.length ≠ m.rows) ∨
            (fl.hasPC = true ∧ cl.length ≠ m.cols) → Faults (.gecfg a d pr pc fl) .dimensionMismatch s) ∧
        ((fl.hasD = true → dm.rows = m.rows) → (fl.hasPR = true → rl.length = m.rows) →
          (fl.hasPC = true → cl.length = m.cols) →
          ((fl.hasD = true ∧ d = a) ∨ (fl.hasPR = true ∧ fl.hasPC = true ∧ pr = pc) →
            Faults (.gecfg a d pr pc fl) .illegalArgument s) ∧
          ((fl.hasD = true → d ≠ a) → (fl.hasPR = true → fl.hasPC = true → pr ≠ pc) →
            Completes (.gecfg a d pr pc fl) [.ge] (fun t =>
              t.ge.valid = true ∧ t.ge.a = a ∧ t.ge.hasD = fl.hasD ∧ t.ge.d = d ∧ t.ge.hasPR = fl.hasPR ∧
              t.ge.pr = pr ∧ t.ge.hasPC = fl.hasPC ∧ t.ge.pc = pc) s))

/-- R302, R305 to R308: the row operations on A, D and the lists, read from the state before the command. -/
def Obligations.RowOperationsComplete : Prop :=
  ∀ (s : State) (a : ByteMatrix) (d : Option ByteMatrix) (pr pc : Option (List Word)) (x y z : XReg),
    ContextIs s a d pr pc →
    (s.index x < a.rows → s.index y < a.rows →
      Completes (.geswpr x y) (s.systemParts ++ s.rowListPart) (fun t =>
        RowsChanged s t a d (fun m i j => m.e (exchange (s.index x) (s.index y) i) j) ∧
        ∀ p, pr = some p → HasEntries (t.getP s.ge.pr) p.length
          fun i => p.getD (exchange (s.index x) (s.index y) i) 0) s ∧
      Completes (.geaxpy x y z) s.systemParts (fun t =>
        RowsChanged s t a d fun m i j =>
          if i = s.index x then m.e i j ^^^ polyMul (s.element z) (m.e (s.index y) j) else m.e i j) s) ∧
    (s.index x < a.cols → s.index y < a.cols →
      Completes (.geswpc x y) (.m s.ge.a :: s.colListPart) (fun t =>
        HasElems (t.getM s.ge.a) a.rows a.cols a.repr (fun i j => a.e i (exchange (s.index x) (s.index y) j)) ∧
        ∀ p, pc = some p → HasEntries (t.getP s.ge.pc) p.length
          fun j => p.getD (exchange (s.index x) (s.index y) j) 0) s) ∧
    (s.index x < a.rows → Completes (.gescl x y) s.systemParts (fun t =>
      RowsChanged s t a d fun m i j => if i = s.index x then polyMul (s.element y) (m.e i j) else m.e i j) s)

/-- R309, R310: normalising makes the pivot 1 and scales its row by the pivot's inverse; elimination clears the pivot
column in the range, by the multiples R310 names. -/
def Obligations.PivotStepsComplete : Prop :=
  ∀ (s : State) (a : ByteMatrix) (d : Option ByteMatrix) (pr pc : Option (List Word)) (r c lo hi : XReg),
    ContextIs s a d pr pc → s.index r < a.rows → s.index c < a.cols → a.e (s.index r) (s.index c) ≠ 0 →
    Completes (.genorm r c) s.systemParts (fun t => ∃ q : Byte, polyMul (a.e (s.index r) (s.index c)) q = 1 ∧
      RowsChanged s t a d (fun m i j => if i = s.index r then polyMul q (m.e i j) else m.e i j) ∧
      ∀ m, t.getM s.ge.a = some m → m.e (s.index r) (s.index c) = 1) s ∧
    (s.index lo ≤ s.index hi → s.index hi ≤ a.rows →
      Completes (.geelim r c lo hi) s.systemParts (fun t => ∃ q : Nat → Byte,
        (∀ i, polyMul (q i) (a.e (s.index r) (s.index c)) = a.e i (s.index c)) ∧
        RowsChanged s t a d (fun m i j =>
          if s.index lo ≤ i ∧ i < s.index hi ∧ i ≠ s.index r then m.e i j ^^^ polyMul (q i) (m.e (s.index r) j)
          else m.e i j) ∧
        ∀ m, t.getM s.ge.a = some m → ∀ i, s.index lo ≤ i → i < s.index hi → i ≠ s.index r →
          m.e i (s.index c) = 0) s)

/-- R311, R312: the pivot searches, and that finding nothing is no fault. -/
def Obligations.PivotSearchesComplete : Prop :=
  ∀ (s : State) (a : ByteMatrix) (d : Option ByteMatrix) (pr pc : Option (List Word)) (x r0 c0 r1 c1 : XReg),
    ContextIs s a d pr pc → s.index r0 ≤ s.index r1 → s.index r1 ≤ a.rows →
    (s.index c0 < a.cols → Completes (.gepivf x c0 r0 r1) [.x x] (fun t => ∃ w, Wrote x w t ∧
      LeastOrNone (s.index r0) (s.index r1) (fun i => a.e i (s.index c0) ≠ 0) w) s) ∧
    (s.index c0 ≤ s.index c1 → s.index c1 ≤ a.cols → Completes (.gepivm x r0 c0 r1 c1) [.x x] (fun t =>
      ∃ w, Wrote x w t ∧ LeastOrNone (s.index r0) (s.index r1) (fun i =>
        1 ≤ degreeOf a (s.index c0) (s.index c1) i ∧ ∀ k, s.index r0 ≤ k → k < s.index r1 →
          1 ≤ degreeOf a (s.index c0) (s.index c1) k →
          degreeOf a (s.index c0) (s.index c1) i ≤ degreeOf a (s.index c0) (s.index c1) k) w) s)

/-- R313: on a context whose A and present D are in canonical form, as the invariant has them (log 8), `GERREF`
completes. It leaves A in reduced row-echelon form, its rank in the register, and the solutions of A·x = D, for each
column of D, as they were; a square A of full rank becomes the identity and D the solution. A, D and the row list end as
R313's loop leaves them: each pivot is the least candidate, and the exchanges made on the row list are those made on the
rows. -/
def Obligations.GerrefReducesAndKeepsSolutions : Prop :=
  ∀ (s : State) (a : ByteMatrix) (d : Option ByteMatrix) (pr pc : Option (List Word)) (x : XReg),
    ContextIs s a d pr pc → a.wf = true → (∀ o, d = some o → o.wf = true) →
    Completes (.gerref x) (.x x :: (s.systemParts ++ s.rowListPart)) (fun t =>
      ∃ (m : ByteMatrix) (r : Nat), t.getM s.ge.a = some m ∧ m.wf = true ∧ m.rows = a.rows ∧ m.cols = a.cols ∧
        m.repr = a.repr ∧ IsReduced m r ∧ Wrote x (BitVec.ofNat 32 r) t ∧
        (∀ y : Nat → Byte, Satisfies a (fun _ => 0) y ↔ Satisfies m (fun _ => 0) y) ∧
        (∀ o, d = some o → ∃ o', t.getM s.ge.d = some o' ∧ o'.wf = true ∧ o'.rows = o.rows ∧ o'.cols = o.cols ∧
          o'.repr = o.repr ∧ ∀ q, q < o.cols → ∀ y : Nat → Byte,
            Satisfies a (fun i => o.e i q) y ↔ Satisfies m (fun i => o'.e i q) y) ∧
        (∀ p, pr = some p → ∃ p', t.getP s.ge.pr = some p' ∧ p'.Perm p) ∧
        (∃ (a' d' : Nat → Nat → Byte) (σ : Nat → Nat),
          ReducesTo a.rows a.e (match d with | some o => o.e | none => fun _ _ => 0) a.cols r a' d' σ ∧
          (∀ i j, i < a.rows → j < a.cols → m.e i j = a' i j) ∧
          (∀ o, d = some o → HasElems (t.getM s.ge.d) o.rows o.cols o.repr d') ∧
          ∀ p, pr = some p → HasEntries (t.getP s.ge.pr) p.length fun i => p.getD (σ i) 0) ∧
        (a.rows = a.cols → r = a.rows → ∀ i j, i < a.rows → j < a.cols → m.e i j = if i = j then 1 else 0)) s

/-- R301, R303, R376: every GE command but `GECFG` checks the context first, in R301's order, then its own operands. -/
def Obligations.GeFaultsInOrder : Prop :=
  ∀ (s : State) (x y z w e : XReg) (i : Instr),
    i ∈ [.geswpr x y, .geswpc x y, .gescl x y, .geaxpy x y z, .genorm x y, .geelim x y z w, .gepivf x y z w,
      .gepivm x y z w e, .gerref x] →
    (s.ge.valid = false → Faults i .illegalState s) ∧
    (s.ge.valid = true →
      (s.getM s.ge.a = none ∨ (s.ge.hasD = true ∧ s.getM s.ge.d = none) ∨
          (s.ge.hasPR = true ∧ s.getP s.ge.pr = none) ∨ (s.ge.hasPC = true ∧ s.getP s.ge.pc = none) →
        Faults i .unallocatedSlot s) ∧
      (∀ (a dm : ByteMatrix) (rl cl : List Word), s.getM s.ge.a = some a →
        (s.ge.hasD = true → s.getM s.ge.d = some dm) → (s.ge.hasPR = true → s.getP s.ge.pr = some rl) →
        (s.ge.hasPC = true → s.getP s.ge.pc = some cl) →
        (s.ge.hasD = true ∧ dm.rows ≠ a.rows) ∨ (s.ge.hasPR = true ∧ rl.length ≠ a.rows) ∨
          (s.ge.hasPC = true ∧ cl.length ≠ a.cols) → Faults i .dimensionMismatch s)) ∧
    ∀ (a : ByteMatrix) (d : Option ByteMatrix) (pr pc : Option (List Word)), ContextIs s a d pr pc →
      (a.rows ≤ s.index x → i ∈ [.geswpr x y, .gescl x y, .geaxpy x y z, .genorm x y, .geelim x y z w] →
        Faults i .indexOutOfRange s) ∧
      (a.rows ≤ s.index y → i ∈ [.geswpr x y, .geaxpy x y z] → Faults i .indexOutOfRange s) ∧
      (a.cols ≤ s.index x → i = .geswpc x y → Faults i .indexOutOfRange s) ∧
      (a.cols ≤ s.index y → i ∈ [.geswpc x y, .genorm x y, .geelim x y z w, .gepivf x y z w] →
        Faults i .indexOutOfRange s) ∧
      (¬ (s.index z ≤ s.index w ∧ s.index w ≤ a.rows) → i ∈ [.geelim x y z w, .gepivf x y z w] →
        Faults i .indexOutOfRange s) ∧
      (¬ (s.index y ≤ s.index w ∧ s.index w ≤ a.rows ∧ s.index z ≤ s.index e ∧ s.index e ≤ a.cols) →
        i = .gepivm x y z w e → Faults i .indexOutOfRange s) ∧
      (s.index x < a.rows → s.index y < a.cols → a.e (s.index x) (s.index y) = 0 →
        (i = .genorm x y → Faults i .divisionByZero s) ∧
        (i = .geelim x y z w → s.index z ≤ s.index w → s.index w ≤ a.rows → Faults i .divisionByZero s))

-- The solver

/-- R340 to R342, R350 to R353: the solver commands other than `SVRUN`, in the states that accept them (R331); rows are
copies, kept in order (R332), and `SVSTAT` writes R30's codes. -/
def Obligations.SolverCommandsComplete : Prop :=
  ∀ (s : State) (x y : XReg) (a b : MSlot) (k h : VSlot),
    (1 ≤ s.index x → s.index x ≤ s.params.svMaxL → 1 ≤ s.index y → s.index y ≤ s.params.svMaxT →
      Completes (.svinit x y) [.sv]
        (fun t => t.sv = { state := .collecting, l := s.getX x, t := s.getX y, rows := [], sol := [] }) s) ∧
    (s.sv.state = .collecting ∨ s.sv.state = .failed →
      (∀ r q, s.getV k = some r → s.getV h = some q → r.length = s.sv.l.toNat → q.length = s.sv.t.toNat →
        s.sv.rows.length + 1 ≤ s.params.svMaxRows → Completes (.svaddr k h) [.sv]
          (fun t => t.sv = { s.sv with state := .collecting, rows := s.sv.rows ++ [(r, q)] }) s) ∧
      (∀ m o, s.getM a = some m → s.getM b = some o → m.wf = true → o.wf = true → m.cols = s.sv.l.toNat →
        o.cols = s.sv.t.toNat → m.rows = o.rows → s.sv.rows.length + m.rows ≤ s.params.svMaxRows →
        Completes (.svaddm a b) [.sv]
          (fun t => t.sv = { s.sv with state := .collecting, rows := s.sv.rows ++ m.elems.zip o.elems }) s)) ∧
    (s.sv.state = .solved → Completes (.svres a) [.m a] (fun t =>
      HasElems (t.getM a) s.sv.l.toNat s.sv.t.toNat .denseRow fun i j => vecAt (s.sv.sol.getD i []) j) s) ∧
    Completes (.svstat x) [.x x] (Wrote x (match s.sv.state with
      | .idle => 0 | .collecting => 1 | .reducingPhase1 => 2 | .reducingPhase2 => 3 | .backSubstitution => 4
      | .solved => 5 | .failed => 6)) s ∧
    Completes (.svrows x) [.x x] (Wrote x (BitVec.ofNat 32 s.sv.rows.length)) s ∧
    Completes .svabort [.sv] (fun t => t.sv = { state := .idle, l := 0, t := 0, rows := [], sol := [] }) s

/-- R331, R338, R376: when the solver commands fault, and with which cause; `SVRUN`'s failure is R336's. -/
def Obligations.SolverFaultsInOrder : Prop :=
  ∀ (s : State) (x y : XReg) (a b : MSlot) (k h : VSlot),
    (s.index x = 0 ∨ s.params.svMaxL < s.index x ∨ s.index y = 0 ∨ s.params.svMaxT < s.index y →
      Faults (.svinit x y) .unsupportedBlockSize s) ∧
    (s.sv.state = .idle ∨ s.sv.state = .solved →
      Faults (.svaddr k h) .illegalState s ∧ Faults (.svaddm a b) .illegalState s) ∧
    (s.sv.state = .idle → Faults .svrun .illegalState s) ∧
    (s.sv.state = .idle ∨ s.sv.state = .collecting ∨ s.sv.state = .failed → Faults (.svres a) .illegalState s) ∧
    (s.sv.state = .collecting ∨ s.sv.state = .failed →
      (s.getV k = none ∨ s.getV h = none → Faults (.svaddr k h) .unallocatedSlot s) ∧
      (s.getM a = none ∨ s.getM b = none → Faults (.svaddm a b) .unallocatedSlot s) ∧
      (∀ r q, s.getV k = some r → s.getV h = some q →
        (r.length ≠ s.sv.l.toNat ∨ q.length ≠ s.sv.t.toNat → Faults (.svaddr k h) .dimensionMismatch s) ∧
        (r.length = s.sv.l.toNat → q.length = s.sv.t.toNat → s.params.svMaxRows < s.sv.rows.length + 1 →
          Faults (.svaddr k h) .capacityExceeded s)) ∧
      (∀ m o, s.getM a = some m → s.getM b = some o →
        (m.cols ≠ s.sv.l.toNat ∨ o.cols ≠ s.sv.t.toNat ∨ m.rows ≠ o.rows →
          Faults (.svaddm a b) .dimensionMismatch s) ∧
        (m.cols = s.sv.l.toNat → o.cols = s.sv.t.toNat → m.rows = o.rows →
          s.params.svMaxRows < s.sv.rows.length + m.rows → Faults (.svaddm a b) .capacityExceeded s))) ∧
    (s.sv.state = .collecting ∨ s.sv.state = .solved ∨ s.sv.state = .failed → s.sv.rows.length < s.sv.l.toNat →
      Faults .svrun .insufficientSymbols s)

/-- R333: in a state that accepts it, `SVRUN` completes in `Solved` exactly when N ≥ L and the coefficient rows have rank
L, and raises `InsufficientSymbols` otherwise. -/
def Obligations.SvrunSolvesExactlyFullRank : Prop :=
  ∀ s : State, s.sv.state = .collecting ∨ s.sv.state = .solved ∨ s.sv.state = .failed →
    (s.sv.l.toNat ≤ s.sv.rows.length ∧ FullRank s.sv.l.toNat s.sv.rows →
      Completes .svrun [.sv] (fun t => t.sv.state = .solved ∧ t.sv.l = s.sv.l ∧ t.sv.t = s.sv.t ∧
        t.sv.rows = s.sv.rows ∧ t.sv.sol.length = s.sv.l.toNat ∧
        ∀ row ∈ t.sv.sol, row.length = s.sv.t.toNat) s) ∧
    (¬ (s.sv.l.toNat ≤ s.sv.rows.length ∧ FullRank s.sv.l.toNat s.sv.rows) → Faults .svrun .insufficientSymbols s)

/-- R333(a), R335: never a wrong answer. When every collected row holds for one X, `SVRUN` either solves with exactly
that X or raises `InsufficientSymbols`. -/
def Obligations.SvrunNeverWrong : Prop :=
  ∀ (s : State) (x : Nat → Nat → Byte), s.sv.state = .collecting ∨ s.sv.state = .solved ∨ s.sv.state = .failed →
    (∀ row ∈ s.sv.rows, RowHolds s.sv.l.toNat s.sv.t.toNat row x) →
    Faults .svrun .insufficientSymbols s ∨
    Completes .svrun [.sv] (fun t => t.sv.state = .solved ∧
      t.sv.sol = (List.range s.sv.l.toNat).map fun j => (List.range s.sv.t.toNat).map fun q => x j q) s

/-- R333(b): when `SVRUN` solves, consistent rows or not, `SV_X` satisfies some L of the collected rows whose submatrix is
invertible. Which L is a free value (log 5): the statement holds for every choice. -/
def Obligations.SvrunSatisfiesAnInvertibleSubset : Prop :=
  ∀ (s t : State), exec .svrun s = .next t → t.sv.state = .solved →
    ∃ set : List Nat, set.Nodup ∧ set.length = s.sv.l.toNat ∧ (∀ k ∈ set, k < s.sv.rows.length) ∧
      FullRank s.sv.l.toNat (set.map fun k => s.sv.rows.getD k ([], [])) ∧
      ∀ k ∈ set, RowHolds s.sv.l.toNat s.sv.t.toNat (s.sv.rows.getD k ([], []))
        fun j q => vecAt (t.sv.sol.getD j []) q

/-- R334, R335: the result of `SVRUN` is a function of L, T and the rows only, running it again gives the same `SV_X`,
and rows appended to a row set that solved still solve. -/
def Obligations.SvrunDeterministicAndMonotone : Prop :=
  (∀ (s s' t t' : State), s.sv.l = s'.sv.l → s.sv.t = s'.sv.t → s.sv.rows = s'.sv.rows →
    exec .svrun s = .next t → exec .svrun s' = .next t' → t.sv.state = .solved → t'.sv.state = .solved →
    t.sv.sol = t'.sv.sol) ∧
  (∀ s t : State, Inv s → s.sv.state = .solved → exec .svrun s = .next t → t.sv = s.sv) ∧
  ∀ (l t : Nat) (rows more : List (List Byte × List Byte)), (solveRows l t rows).isSome = true →
    (solveRows l t (rows ++ more)).isSome = true
end

