-- ==== Sys2Proof/Laws/Objects.lean ====
section
/-! SUPPORT. What the object builders and readers of Machine/Objects.lean give, said once: shape, canonical form and
every element. Later proofs cite these and unfold no list. -/

namespace Sys2Proof.Machine

/-! Vectors and index lists. -/

@[simp] theorem newVector_length (n : Nat) (f : Nat → Byte) : (newVector n f).length = n := by
  simp [newVector]

theorem newVector_get (n : Nat) (f : Nat → Byte) (k : Nat) (h : k < n) : (newVector n f)[k]? = some (f k) := by
  simp [newVector, h]

theorem vecAt_newVector (n : Nat) (f : Nat → Byte) (k : Nat) (h : k < n) : vecAt (newVector n f) k = f k := by
  simp [vecAt, List.getD, newVector_get n f k h]

theorem newVector_congr {n : Nat} {f g : Nat → Byte} (h : ∀ k, k < n → f k = g k) : newVector n f = newVector n g := by
  simp only [newVector]
  exact List.map_congr_left fun k hk => h k (List.mem_range.mp hk)

/-- A vector is the one built from its own entries. -/
theorem newVector_vecAt (v : List Byte) : newVector v.length (vecAt v) = v := by
  apply List.ext_getElem (by simp)
  intro k h _
  simp only [newVector_length] at h
  simp [newVector, vecAt, h]

theorem newVector_map (v : List Byte) (f : Byte → Byte) : newVector v.length (fun k => f (vecAt v k)) = v.map f := by
  apply List.ext_getElem (by simp)
  intro k h _
  simp only [newVector_length] at h
  simp [newVector, vecAt, h]

theorem newVector_zip (u v : List Byte) (f : Byte → Byte → Byte) (h : u.length = v.length) :
    newVector u.length (fun k => f (vecAt u k) (vecAt v k)) = List.zipWith f u v := by
  apply List.ext_getElem (by simp [h])
  intro k hk _
  simp only [newVector_length] at hk
  simp [newVector, vecAt, hk, h ▸ hk]

@[simp] theorem newIndex_length (n : Nat) (f : Nat → Word) : (newIndex n f).length = n := by
  simp [newIndex]

theorem newIndex_get (n : Nat) (f : Nat → Word) (k : Nat) (h : k < n) : (newIndex n f)[k]? = some (f k) := by
  simp [newIndex, h]

theorem indexAt_newIndex (n : Nat) (f : Nat → Word) (k : Nat) (h : k < n) : indexAt (newIndex n f) k = f k := by
  simp [indexAt, List.getD, newIndex_get n f k h]

theorem newIndex_indexAt (p : List Word) : newIndex p.length (indexAt p) = p := by
  apply List.ext_getElem (by simp)
  intro k h _
  simp only [newIndex_length] at h
  simp [newIndex, indexAt, h]

theorem hasBytes_newVector {n : Nat} {f g : Nat → Byte} (h : ∀ k, k < n → f k = g k) :
    HasBytes (some (newVector n f)) n g :=
  ⟨_, rfl, by simp, fun k hk => by rw [newVector_get n f k hk, h k hk]⟩

theorem hasEntries_newIndex {n : Nat} {f g : Nat → Word} (h : ∀ k, k < n → f k = g k) :
    HasEntries (some (newIndex n f)) n g :=
  ⟨_, rfl, by simp, fun k hk => by rw [newIndex_get n f k hk, h k hk]⟩

theorem swapFn_eq {α : Type} (i j : Nat) (f : Nat → α) (k : Nat) : swapFn i j f k = f (exchange i j k) := by
  unfold swapFn exchange
  split
  · rfl
  · split <;> rfl

/-! Matrices. -/

@[simp] theorem newMatrix_rows (r c : Nat) (rep : MRepr) (f : Nat → Nat → Byte) : (newMatrix r c rep f).rows = r := rfl
@[simp] theorem newMatrix_cols (r c : Nat) (rep : MRepr) (f : Nat → Nat → Byte) : (newMatrix r c rep f).cols = c := rfl
@[simp] theorem newMatrix_repr (r c : Nat) (rep : MRepr) (f : Nat → Nat → Byte) : (newMatrix r c rep f).repr = rep :=
  rfl

@[simp] theorem newMatrix_wf (r c : Nat) (rep : MRepr) (f : Nat → Nat → Byte) : (newMatrix r c rep f).wf = true := by
  simp [ByteMatrix.wf, newMatrix]

theorem newMatrix_e (r c : Nat) (rep : MRepr) (f : Nat → Nat → Byte) (i j : Nat) (hi : i < r) (hj : j < c) :
    (newMatrix r c rep f).e i j = f i j := by
  simp [ByteMatrix.e, newMatrix, List.getD, hi, hj]

/-- Two matrices with the same shape and elements are built as one. -/
theorem newMatrix_congr {r c : Nat} {rep : MRepr} {f g : Nat → Nat → Byte}
    (h : ∀ i j, i < r → j < c → f i j = g i j) : newMatrix r c rep f = newMatrix r c rep g := by
  simp only [newMatrix, ByteMatrix.mk.injEq, true_and]
  apply List.map_congr_left
  intro i hi
  exact List.map_congr_left fun j hj => h i j (List.mem_range.mp hi) (List.mem_range.mp hj)

/-- A canonical matrix is the one built from its own elements. -/
theorem newMatrix_self (m : ByteMatrix) (h : m.wf = true) : newMatrix m.rows m.cols m.repr m.e = m := by
  obtain ⟨rows, cols, rep, elems⟩ := m
  simp only [ByteMatrix.wf, Bool.and_eq_true, beq_iff_eq, List.all_eq_true] at h
  obtain ⟨hr, hc⟩ := h
  simp only [newMatrix, ByteMatrix.mk.injEq, true_and]
  apply List.ext_getElem (by simp [hr])
  intro i h1 h2
  have hrow := hc _ (List.getElem_mem h2)
  apply List.ext_getElem (by simp [hrow])
  intro j h3 h4
  simp [ByteMatrix.e, h2, h4]

theorem hasElems_newMatrix {r c : Nat} {rep : MRepr} {f g : Nat → Nat → Byte}
    (h : ∀ i j, i < r → j < c → f i j = g i j) : HasElems (some (newMatrix r c rep f)) r c rep g :=
  ⟨_, rfl, newMatrix_wf .., rfl, rfl, rfl, fun i j hi hj => by rw [newMatrix_e r c rep f i j hi hj, h i j hi hj]⟩

@[simp] theorem withElems_rows (m : ByteMatrix) (f : Nat → Nat → Byte) : (m.withElems f).rows = m.rows := rfl
@[simp] theorem withElems_cols (m : ByteMatrix) (f : Nat → Nat → Byte) : (m.withElems f).cols = m.cols := rfl
@[simp] theorem withElems_repr (m : ByteMatrix) (f : Nat → Nat → Byte) : (m.withElems f).repr = m.repr := rfl
@[simp] theorem withElems_wf (m : ByteMatrix) (f : Nat → Nat → Byte) : (m.withElems f).wf = true := newMatrix_wf ..

theorem withElems_e (m : ByteMatrix) (f : Nat → Nat → Byte) (i j : Nat) (hi : i < m.rows) (hj : j < m.cols) :
    (m.withElems f).e i j = f i j := newMatrix_e _ _ _ f i j hi hj

@[simp] theorem row_length (m : ByteMatrix) (r : Nat) : (m.row r).length = m.cols := newVector_length ..
@[simp] theorem col_length (m : ByteMatrix) (c : Nat) : (m.col c).length = m.rows := newVector_length ..
@[simp] theorem swapRows_rows (m : ByteMatrix) (i j : Nat) : (m.swapRows i j).rows = m.rows := rfl
@[simp] theorem swapRows_cols (m : ByteMatrix) (i j : Nat) : (m.swapRows i j).cols = m.cols := rfl
@[simp] theorem swapRows_wf (m : ByteMatrix) (i j : Nat) : (m.swapRows i j).wf = true := withElems_wf ..
@[simp] theorem swapCols_rows (m : ByteMatrix) (i j : Nat) : (m.swapCols i j).rows = m.rows := rfl
@[simp] theorem swapCols_cols (m : ByteMatrix) (i j : Nat) : (m.swapCols i j).cols = m.cols := rfl
@[simp] theorem swapCols_wf (m : ByteMatrix) (i j : Nat) : (m.swapCols i j).wf = true := withElems_wf ..
@[simp] theorem scaleRow_rows (m : ByteMatrix) (r : Nat) (β : Byte) : (m.scaleRow r β).rows = m.rows := rfl
@[simp] theorem scaleRow_cols (m : ByteMatrix) (r : Nat) (β : Byte) : (m.scaleRow r β).cols = m.cols := rfl
@[simp] theorem scaleRow_wf (m : ByteMatrix) (r : Nat) (β : Byte) : (m.scaleRow r β).wf = true := withElems_wf ..
@[simp] theorem axpyRows_rows (m : ByteMatrix) (r : Nat) (f : Nat → Byte) : (m.axpyRows r f).rows = m.rows := rfl
@[simp] theorem axpyRows_cols (m : ByteMatrix) (r : Nat) (f : Nat → Byte) : (m.axpyRows r f).cols = m.cols := rfl
@[simp] theorem axpyRows_wf (m : ByteMatrix) (r : Nat) (f : Nat → Byte) : (m.axpyRows r f).wf = true :=
  withElems_wf ..
@[simp] theorem mul_rows (rep : MRepr) (a b : ByteMatrix) : (ByteMatrix.mul rep a b).rows = a.rows := rfl
@[simp] theorem mul_cols (rep : MRepr) (a b : ByteMatrix) : (ByteMatrix.mul rep a b).cols = b.cols := rfl
@[simp] theorem mul_wf (rep : MRepr) (a b : ByteMatrix) : (ByteMatrix.mul rep a b).wf = true := newMatrix_wf ..

theorem swapRows_e (m : ByteMatrix) (i j k c : Nat) (hk : k < m.rows) (hc : c < m.cols) :
    (m.swapRows i j).e k c = m.e (exchange i j k) c := by
  rw [ByteMatrix.swapRows, withElems_e _ _ _ _ hk hc, swapFn_eq]

theorem swapCols_e (m : ByteMatrix) (i j k c : Nat) (hk : k < m.rows) (hc : c < m.cols) :
    (m.swapCols i j).e k c = m.e k (exchange i j c) := by
  rw [ByteMatrix.swapCols, withElems_e _ _ _ _ hk hc, swapFn_eq]

theorem scaleRow_e (m : ByteMatrix) (r : Nat) (β : Byte) (k c : Nat) (hk : k < m.rows) (hc : c < m.cols) :
    (m.scaleRow r β).e k c = if k = r then gfMul β (m.e k c) else m.e k c := by
  rw [ByteMatrix.scaleRow, withElems_e _ _ _ _ hk hc]

theorem axpyRows_e (m : ByteMatrix) (r : Nat) (f : Nat → Byte) (k c : Nat) (hk : k < m.rows) (hc : c < m.cols) :
    (m.axpyRows r f).e k c = m.e k c ^^^ gfMul (f k) (m.e r c) := by
  rw [ByteMatrix.axpyRows, withElems_e _ _ _ _ hk hc]; rfl

theorem mul_e (rep : MRepr) (a b : ByteMatrix) (i j : Nat) (hi : i < a.rows) (hj : j < b.cols) :
    (ByteMatrix.mul rep a b).e i j = gfSum ((List.range a.cols).map fun k => gfMul (a.e i k) (b.e k j)) := by
  rw [ByteMatrix.mul, newMatrix_e _ _ _ _ _ _ hi hj]

theorem powBits_shape (rep : MRepr) (a : ByteMatrix) (h : a.rows = a.cols) (bits n : Nat) :
    (ByteMatrix.powBits rep a bits n).rows = a.rows ∧ (ByteMatrix.powBits rep a bits n).cols = a.rows ∧
      (ByteMatrix.powBits rep a bits n).wf = true := by
  induction bits generalizing n with
  | zero => simp [ByteMatrix.powBits]
  | succ bits ih =>
    unfold ByteMatrix.powBits
    split
    · simp
    · dsimp only
      split <;> simp [ih (n / 2), h]

/-! Sums. -/

theorem gfSum_eq_foldl (ts : List Byte) (z : Byte) : ts.foldl (fun acc t => acc ^^^ t) z = z ^^^ gfSum ts := by
  induction ts generalizing z with
  | nil => simp [gfSum]
  | cons t ts ih => simp only [List.foldl_cons, ih, gfSum, List.foldr_cons, gfAdd, BitVec.xor_assoc]

theorem dot_eq_gfSum (n : Nat) (f g : Nat → Byte) :
    dot n f g = gfSum ((List.range n).map fun k => gfMul (f k) (g k)) := by
  have h := gfSum_eq_foldl ((List.range n).map fun k => gfMul (f k) (g k)) 0
  rw [List.foldl_map] at h
  simpa [dot] using h

end Sys2Proof.Machine
end

