-- ==== Sys2Proof/Laws/State.lean ====
section
/-! SUPPORT. What each update of State leaves in each field, one lemma per field per update, so that later proofs never
unfold an update. -/

namespace Sys2Proof.Machine

/-! The register file. -/

@[simp] theorem State.setX_cmdcnt (s : State) (n : XReg) (w : Word) : (s.setX n w).cmdcnt = s.cmdcnt := by unfold State.setX; split <;> rfl
@[simp] theorem State.setX_m (s : State) (n : XReg) (w : Word) : (s.setX n w).m = s.m := by unfold State.setX; split <;> rfl
@[simp] theorem State.setX_v (s : State) (n : XReg) (w : Word) : (s.setX n w).v = s.v := by unfold State.setX; split <;> rfl
@[simp] theorem State.setX_p (s : State) (n : XReg) (w : Word) : (s.setX n w).p = s.p := by unfold State.setX; split <;> rfl
@[simp] theorem State.setX_ge (s : State) (n : XReg) (w : Word) : (s.setX n w).ge = s.ge := by unfold State.setX; split <;> rfl
@[simp] theorem State.setX_sv (s : State) (n : XReg) (w : Word) : (s.setX n w).sv = s.sv := by unfold State.setX; split <;> rfl
@[simp] theorem State.setX_queue (s : State) (n : XReg) (w : Word) : (s.setX n w).queue = s.queue := by unfold State.setX; split <;> rfl
@[simp] theorem State.setX_cause (s : State) (n : XReg) (w : Word) : (s.setX n w).cause = s.cause := by unfold State.setX; split <;> rfl
@[simp] theorem State.setX_faultCmd (s : State) (n : XReg) (w : Word) : (s.setX n w).faultCmd = s.faultCmd := by unfold State.setX; split <;> rfl
@[simp] theorem State.setX_faultSeq (s : State) (n : XReg) (w : Word) : (s.setX n w).faultSeq = s.faultSeq := by unfold State.setX; split <;> rfl
@[simp] theorem State.setX_ctrl (s : State) (n : XReg) (w : Word) : (s.setX n w).ctrl = s.ctrl := by unfold State.setX; split <;> rfl
@[simp] theorem State.setX_status (s : State) (n : XReg) (w : Word) : (s.setX n w).status = s.status := by unfold State.setX; split <;> rfl
@[simp] theorem State.setX_dwsel (s : State) (n : XReg) (w : Word) : (s.setX n w).dwsel = s.dwsel := by unfold State.setX; split <;> rfl
@[simp] theorem State.setX_dwaddr (s : State) (n : XReg) (w : Word) : (s.setX n w).dwaddr = s.dwaddr := by unfold State.setX; split <;> rfl
@[simp] theorem State.setX_params (s : State) (n : XReg) (w : Word) : (s.setX n w).params = s.params := by unfold State.setX; split <;> rfl
@[simp] theorem State.setX_agenda (s : State) (n : XReg) (w : Word) : (s.setX n w).agenda = s.agenda := by unfold State.setX; split <;> rfl
@[simp] theorem State.setX_response (s : State) (n : XReg) (w : Word) : (s.setX n w).response = s.response := by unfold State.setX; split <;> rfl
@[simp] theorem State.setX_draws (s : State) (n : XReg) (w : Word) : (s.setX n w).draws = s.draws := by unfold State.setX; split <;> rfl

@[simp] theorem State.getX_zero (s : State) : s.getX 0 = 0 := rfl

theorem State.getX_setX (s : State) (d n : XReg) (w : Word) :
    (s.setX d w).getX n = if n = d then (if d = 0 then 0 else w) else s.getX n := by
  unfold State.setX State.getX
  by_cases hd : d = 0
  · subst hd; by_cases hn : n = 0 <;> simp [hn]
  · by_cases hn : n = d
    · subst hn; simp [hd]
    · have : d.val ≠ n.val := fun h => hn (Fin.ext h.symm)
      simp [hd, hn, this]

@[simp] theorem State.getX_setX_self (s : State) (d : XReg) (w : Word) :
    (s.setX d w).getX d = if d = 0 then 0 else w := by
  simp [State.getX_setX]

@[simp] theorem State.getX_setX_ne (s : State) {d n : XReg} (h : n ≠ d) (w : Word) :
    (s.setX d w).getX n = s.getX n := by
  simp [State.getX_setX, h]

/-! Slots `M`. -/

@[simp] theorem State.setM_x (s : State) (k : MSlot) (o : Option ByteMatrix) : (s.setM k o).x = s.x := rfl
@[simp] theorem State.setM_cmdcnt (s : State) (k : MSlot) (o : Option ByteMatrix) : (s.setM k o).cmdcnt = s.cmdcnt := rfl
@[simp] theorem State.setM_v (s : State) (k : MSlot) (o : Option ByteMatrix) : (s.setM k o).v = s.v := rfl
@[simp] theorem State.setM_p (s : State) (k : MSlot) (o : Option ByteMatrix) : (s.setM k o).p = s.p := rfl
@[simp] theorem State.setM_ge (s : State) (k : MSlot) (o : Option ByteMatrix) : (s.setM k o).ge = s.ge := rfl
@[simp] theorem State.setM_sv (s : State) (k : MSlot) (o : Option ByteMatrix) : (s.setM k o).sv = s.sv := rfl
@[simp] theorem State.setM_queue (s : State) (k : MSlot) (o : Option ByteMatrix) : (s.setM k o).queue = s.queue := rfl
@[simp] theorem State.setM_cause (s : State) (k : MSlot) (o : Option ByteMatrix) : (s.setM k o).cause = s.cause := rfl
@[simp] theorem State.setM_faultCmd (s : State) (k : MSlot) (o : Option ByteMatrix) : (s.setM k o).faultCmd = s.faultCmd := rfl
@[simp] theorem State.setM_faultSeq (s : State) (k : MSlot) (o : Option ByteMatrix) : (s.setM k o).faultSeq = s.faultSeq := rfl
@[simp] theorem State.setM_ctrl (s : State) (k : MSlot) (o : Option ByteMatrix) : (s.setM k o).ctrl = s.ctrl := rfl
@[simp] theorem State.setM_status (s : State) (k : MSlot) (o : Option ByteMatrix) : (s.setM k o).status = s.status := rfl
@[simp] theorem State.setM_dwsel (s : State) (k : MSlot) (o : Option ByteMatrix) : (s.setM k o).dwsel = s.dwsel := rfl
@[simp] theorem State.setM_dwaddr (s : State) (k : MSlot) (o : Option ByteMatrix) : (s.setM k o).dwaddr = s.dwaddr := rfl
@[simp] theorem State.setM_params (s : State) (k : MSlot) (o : Option ByteMatrix) : (s.setM k o).params = s.params := rfl
@[simp] theorem State.setM_agenda (s : State) (k : MSlot) (o : Option ByteMatrix) : (s.setM k o).agenda = s.agenda := rfl
@[simp] theorem State.setM_response (s : State) (k : MSlot) (o : Option ByteMatrix) : (s.setM k o).response = s.response := rfl
@[simp] theorem State.setM_draws (s : State) (k : MSlot) (o : Option ByteMatrix) : (s.setM k o).draws = s.draws := rfl

theorem State.getM_setM (s : State) (d k : MSlot) (o : Option ByteMatrix) :
    (s.setM d o).getM k = if k = d then o else s.getM k := by
  unfold State.setM State.getM
  by_cases h : k = d
  · subst h; simp
  · have : d.val ≠ k.val := fun e => h (Fin.ext e.symm)
    simp [h, this]

@[simp] theorem State.getM_setM_self (s : State) (d : MSlot) (o : Option ByteMatrix) : (s.setM d o).getM d = o := by
  simp [State.getM_setM]

@[simp] theorem State.getM_setM_ne (s : State) {d k : MSlot} (h : k ≠ d) (o : Option ByteMatrix) :
    (s.setM d o).getM k = s.getM k := by
  simp [State.getM_setM, h]

/-! Slots `V`. -/

@[simp] theorem State.setV_x (s : State) (k : VSlot) (o : Option (List Byte)) : (s.setV k o).x = s.x := rfl
@[simp] theorem State.setV_cmdcnt (s : State) (k : VSlot) (o : Option (List Byte)) : (s.setV k o).cmdcnt = s.cmdcnt := rfl
@[simp] theorem State.setV_m (s : State) (k : VSlot) (o : Option (List Byte)) : (s.setV k o).m = s.m := rfl
@[simp] theorem State.setV_p (s : State) (k : VSlot) (o : Option (List Byte)) : (s.setV k o).p = s.p := rfl
@[simp] theorem State.setV_ge (s : State) (k : VSlot) (o : Option (List Byte)) : (s.setV k o).ge = s.ge := rfl
@[simp] theorem State.setV_sv (s : State) (k : VSlot) (o : Option (List Byte)) : (s.setV k o).sv = s.sv := rfl
@[simp] theorem State.setV_queue (s : State) (k : VSlot) (o : Option (List Byte)) : (s.setV k o).queue = s.queue := rfl
@[simp] theorem State.setV_cause (s : State) (k : VSlot) (o : Option (List Byte)) : (s.setV k o).cause = s.cause := rfl
@[simp] theorem State.setV_faultCmd (s : State) (k : VSlot) (o : Option (List Byte)) : (s.setV k o).faultCmd = s.faultCmd := rfl
@[simp] theorem State.setV_faultSeq (s : State) (k : VSlot) (o : Option (List Byte)) : (s.setV k o).faultSeq = s.faultSeq := rfl
@[simp] theorem State.setV_ctrl (s : State) (k : VSlot) (o : Option (List Byte)) : (s.setV k o).ctrl = s.ctrl := rfl
@[simp] theorem State.setV_status (s : State) (k : VSlot) (o : Option (List Byte)) : (s.setV k o).status = s.status := rfl
@[simp] theorem State.setV_dwsel (s : State) (k : VSlot) (o : Option (List Byte)) : (s.setV k o).dwsel = s.dwsel := rfl
@[simp] theorem State.setV_dwaddr (s : State) (k : VSlot) (o : Option (List Byte)) : (s.setV k o).dwaddr = s.dwaddr := rfl
@[simp] theorem State.setV_params (s : State) (k : VSlot) (o : Option (List Byte)) : (s.setV k o).params = s.params := rfl
@[simp] theorem State.setV_agenda (s : State) (k : VSlot) (o : Option (List Byte)) : (s.setV k o).agenda = s.agenda := rfl
@[simp] theorem State.setV_response (s : State) (k : VSlot) (o : Option (List Byte)) : (s.setV k o).response = s.response := rfl
@[simp] theorem State.setV_draws (s : State) (k : VSlot) (o : Option (List Byte)) : (s.setV k o).draws = s.draws := rfl

theorem State.getV_setV (s : State) (d k : VSlot) (o : Option (List Byte)) :
    (s.setV d o).getV k = if k = d then o else s.getV k := by
  unfold State.setV State.getV
  by_cases h : k = d
  · subst h; simp
  · have : d.val ≠ k.val := fun e => h (Fin.ext e.symm)
    simp [h, this]

@[simp] theorem State.getV_setV_self (s : State) (d : VSlot) (o : Option (List Byte)) : (s.setV d o).getV d = o := by
  simp [State.getV_setV]

@[simp] theorem State.getV_setV_ne (s : State) {d k : VSlot} (h : k ≠ d) (o : Option (List Byte)) :
    (s.setV d o).getV k = s.getV k := by
  simp [State.getV_setV, h]

/-! Slots `P`. -/

@[simp] theorem State.setP_x (s : State) (k : PSlot) (o : Option (List Word)) : (s.setP k o).x = s.x := rfl
@[simp] theorem State.setP_cmdcnt (s : State) (k : PSlot) (o : Option (List Word)) : (s.setP k o).cmdcnt = s.cmdcnt := rfl
@[simp] theorem State.setP_m (s : State) (k : PSlot) (o : Option (List Word)) : (s.setP k o).m = s.m := rfl
@[simp] theorem State.setP_v (s : State) (k : PSlot) (o : Option (List Word)) : (s.setP k o).v = s.v := rfl
@[simp] theorem State.setP_ge (s : State) (k : PSlot) (o : Option (List Word)) : (s.setP k o).ge = s.ge := rfl
@[simp] theorem State.setP_sv (s : State) (k : PSlot) (o : Option (List Word)) : (s.setP k o).sv = s.sv := rfl
@[simp] theorem State.setP_queue (s : State) (k : PSlot) (o : Option (List Word)) : (s.setP k o).queue = s.queue := rfl
@[simp] theorem State.setP_cause (s : State) (k : PSlot) (o : Option (List Word)) : (s.setP k o).cause = s.cause := rfl
@[simp] theorem State.setP_faultCmd (s : State) (k : PSlot) (o : Option (List Word)) : (s.setP k o).faultCmd = s.faultCmd := rfl
@[simp] theorem State.setP_faultSeq (s : State) (k : PSlot) (o : Option (List Word)) : (s.setP k o).faultSeq = s.faultSeq := rfl
@[simp] theorem State.setP_ctrl (s : State) (k : PSlot) (o : Option (List Word)) : (s.setP k o).ctrl = s.ctrl := rfl
@[simp] theorem State.setP_status (s : State) (k : PSlot) (o : Option (List Word)) : (s.setP k o).status = s.status := rfl
@[simp] theorem State.setP_dwsel (s : State) (k : PSlot) (o : Option (List Word)) : (s.setP k o).dwsel = s.dwsel := rfl
@[simp] theorem State.setP_dwaddr (s : State) (k : PSlot) (o : Option (List Word)) : (s.setP k o).dwaddr = s.dwaddr := rfl
@[simp] theorem State.setP_params (s : State) (k : PSlot) (o : Option (List Word)) : (s.setP k o).params = s.params := rfl
@[simp] theorem State.setP_agenda (s : State) (k : PSlot) (o : Option (List Word)) : (s.setP k o).agenda = s.agenda := rfl
@[simp] theorem State.setP_response (s : State) (k : PSlot) (o : Option (List Word)) : (s.setP k o).response = s.response := rfl
@[simp] theorem State.setP_draws (s : State) (k : PSlot) (o : Option (List Word)) : (s.setP k o).draws = s.draws := rfl

theorem State.getP_setP (s : State) (d k : PSlot) (o : Option (List Word)) :
    (s.setP d o).getP k = if k = d then o else s.getP k := by
  unfold State.setP State.getP
  by_cases h : k = d
  · subst h; simp
  · have : d.val ≠ k.val := fun e => h (Fin.ext e.symm)
    simp [h, this]

@[simp] theorem State.getP_setP_self (s : State) (d : PSlot) (o : Option (List Word)) : (s.setP d o).getP d = o := by
  simp [State.getP_setP]

@[simp] theorem State.getP_setP_ne (s : State) {d k : PSlot} (h : k ≠ d) (o : Option (List Word)) :
    (s.setP d o).getP k = s.getP k := by
  simp [State.getP_setP, h]

/-! An accessor over an update of another part. -/

@[simp] theorem State.getX_setM (s : State) (d : MSlot) (o : Option ByteMatrix) (k : XReg) :
    (s.setM d o).getX k = s.getX k := rfl
@[simp] theorem State.getX_setV (s : State) (d : VSlot) (o : Option (List Byte)) (k : XReg) :
    (s.setV d o).getX k = s.getX k := rfl
@[simp] theorem State.getX_setP (s : State) (d : PSlot) (o : Option (List Word)) (k : XReg) :
    (s.setP d o).getX k = s.getX k := rfl
@[simp] theorem State.getM_setX (s : State) (d : XReg) (w : Word) (k : MSlot) :
    (s.setX d w).getM k = s.getM k := by unfold State.getM; rw [State.setX_m]
@[simp] theorem State.getM_setV (s : State) (d : VSlot) (o : Option (List Byte)) (k : MSlot) :
    (s.setV d o).getM k = s.getM k := rfl
@[simp] theorem State.getM_setP (s : State) (d : PSlot) (o : Option (List Word)) (k : MSlot) :
    (s.setP d o).getM k = s.getM k := rfl
@[simp] theorem State.getV_setX (s : State) (d : XReg) (w : Word) (k : VSlot) :
    (s.setX d w).getV k = s.getV k := by unfold State.getV; rw [State.setX_v]
@[simp] theorem State.getV_setM (s : State) (d : MSlot) (o : Option ByteMatrix) (k : VSlot) :
    (s.setM d o).getV k = s.getV k := rfl
@[simp] theorem State.getV_setP (s : State) (d : PSlot) (o : Option (List Word)) (k : VSlot) :
    (s.setP d o).getV k = s.getV k := rfl
@[simp] theorem State.getP_setX (s : State) (d : XReg) (w : Word) (k : PSlot) :
    (s.setX d w).getP k = s.getP k := by unfold State.getP; rw [State.setX_p]
@[simp] theorem State.getP_setM (s : State) (d : MSlot) (o : Option ByteMatrix) (k : PSlot) :
    (s.setM d o).getP k = s.getP k := rfl
@[simp] theorem State.getP_setV (s : State) (d : VSlot) (o : Option (List Byte)) (k : PSlot) :
    (s.setV d o).getP k = s.getP k := rfl

/-! Retiring (R22, R42). -/

@[simp] theorem retire_x (s : State)  : (retire s).x = s.x := rfl
@[simp] theorem retire_m (s : State)  : (retire s).m = s.m := rfl
@[simp] theorem retire_v (s : State)  : (retire s).v = s.v := rfl
@[simp] theorem retire_p (s : State)  : (retire s).p = s.p := rfl
@[simp] theorem retire_ge (s : State)  : (retire s).ge = s.ge := rfl
@[simp] theorem retire_sv (s : State)  : (retire s).sv = s.sv := rfl
@[simp] theorem retire_cause (s : State)  : (retire s).cause = s.cause := rfl
@[simp] theorem retire_faultCmd (s : State)  : (retire s).faultCmd = s.faultCmd := rfl
@[simp] theorem retire_faultSeq (s : State)  : (retire s).faultSeq = s.faultSeq := rfl
@[simp] theorem retire_ctrl (s : State)  : (retire s).ctrl = s.ctrl := rfl
@[simp] theorem retire_dwsel (s : State)  : (retire s).dwsel = s.dwsel := rfl
@[simp] theorem retire_dwaddr (s : State)  : (retire s).dwaddr = s.dwaddr := rfl
@[simp] theorem retire_params (s : State)  : (retire s).params = s.params := rfl
@[simp] theorem retire_agenda (s : State)  : (retire s).agenda = s.agenda := rfl
@[simp] theorem retire_response (s : State)  : (retire s).response = s.response := rfl
@[simp] theorem retire_draws (s : State)  : (retire s).draws = s.draws := rfl
@[simp] theorem retire_queue (s : State) : (retire s).queue = s.queue.tail := rfl
@[simp] theorem retire_cmdcnt (s : State) : (retire s).cmdcnt = s.cmdcnt + 1 := rfl
@[simp] theorem retire_status_fault (s : State) : (retire s).status.fault = s.status.fault := rfl
@[simp] theorem retire_status_done (s : State) :
    (retire s).status.done = (s.status.done || s.queue.tail.isEmpty) := rfl
@[simp] theorem retire_status_signal (s : State) : (retire s).status.signal = s.status.signal := rfl
@[simp] theorem retire_status_overrun (s : State) : (retire s).status.overrun = s.status.overrun := rfl
@[simp] theorem retire_status_accerr (s : State) : (retire s).status.accerr = s.status.accerr := rfl
@[simp] theorem retire_getX (s : State) (n : XReg) : (retire s).getX n = s.getX n := rfl
@[simp] theorem retire_getM (s : State) (k : MSlot) : (retire s).getM k = s.getM k := rfl
@[simp] theorem retire_getV (s : State) (k : VSlot) : (retire s).getV k = s.getV k := rfl
@[simp] theorem retire_getP (s : State) (k : PSlot) : (retire s).getP k = s.getP k := rfl

/-! Fault entry (R380). -/

@[simp] theorem takeFault_x (s : State) (c : Cause) : (takeFault c s).x = s.x := rfl
@[simp] theorem takeFault_cmdcnt (s : State) (c : Cause) : (takeFault c s).cmdcnt = s.cmdcnt := rfl
@[simp] theorem takeFault_m (s : State) (c : Cause) : (takeFault c s).m = s.m := rfl
@[simp] theorem takeFault_v (s : State) (c : Cause) : (takeFault c s).v = s.v := rfl
@[simp] theorem takeFault_p (s : State) (c : Cause) : (takeFault c s).p = s.p := rfl
@[simp] theorem takeFault_ge (s : State) (c : Cause) : (takeFault c s).ge = s.ge := rfl
@[simp] theorem takeFault_ctrl (s : State) (c : Cause) : (takeFault c s).ctrl = s.ctrl := rfl
@[simp] theorem takeFault_dwsel (s : State) (c : Cause) : (takeFault c s).dwsel = s.dwsel := rfl
@[simp] theorem takeFault_dwaddr (s : State) (c : Cause) : (takeFault c s).dwaddr = s.dwaddr := rfl
@[simp] theorem takeFault_params (s : State) (c : Cause) : (takeFault c s).params = s.params := rfl
@[simp] theorem takeFault_agenda (s : State) (c : Cause) : (takeFault c s).agenda = s.agenda := rfl
@[simp] theorem takeFault_response (s : State) (c : Cause) : (takeFault c s).response = s.response := rfl
@[simp] theorem takeFault_draws (s : State) (c : Cause) : (takeFault c s).draws = s.draws := rfl
@[simp] theorem takeFault_queue (s : State) (c : Cause) : (takeFault c s).queue = [] := rfl
@[simp] theorem takeFault_cause (s : State) (c : Cause) : (takeFault c s).cause = some c := rfl
@[simp] theorem takeFault_faultCmd (s : State) (c : Cause) : (takeFault c s).faultCmd = s.headWord := rfl
@[simp] theorem takeFault_faultSeq (s : State) (c : Cause) : (takeFault c s).faultSeq = s.cmdcnt := rfl
@[simp] theorem takeFault_status (s : State) (c : Cause) :
    (takeFault c s).status = { s.status with fault := true } := rfl
theorem takeFault_sv (s : State) (c : Cause) :
    (takeFault c s).sv = if c = .insufficientSymbols then { s.sv with state := .failed, sol := [] } else s.sv := rfl

/-! Acknowledging (R42, R381). -/

@[simp] theorem acknowledge_x (s : State) (w : Word) : (acknowledge w s).x = s.x := rfl
@[simp] theorem acknowledge_cmdcnt (s : State) (w : Word) : (acknowledge w s).cmdcnt = s.cmdcnt := rfl
@[simp] theorem acknowledge_m (s : State) (w : Word) : (acknowledge w s).m = s.m := rfl
@[simp] theorem acknowledge_v (s : State) (w : Word) : (acknowledge w s).v = s.v := rfl
@[simp] theorem acknowledge_p (s : State) (w : Word) : (acknowledge w s).p = s.p := rfl
@[simp] theorem acknowledge_ge (s : State) (w : Word) : (acknowledge w s).ge = s.ge := rfl
@[simp] theorem acknowledge_sv (s : State) (w : Word) : (acknowledge w s).sv = s.sv := rfl
@[simp] theorem acknowledge_queue (s : State) (w : Word) : (acknowledge w s).queue = s.queue := rfl
@[simp] theorem acknowledge_cause (s : State) (w : Word) : (acknowledge w s).cause = s.cause := rfl
@[simp] theorem acknowledge_faultCmd (s : State) (w : Word) : (acknowledge w s).faultCmd = s.faultCmd := rfl
@[simp] theorem acknowledge_faultSeq (s : State) (w : Word) : (acknowledge w s).faultSeq = s.faultSeq := rfl
@[simp] theorem acknowledge_ctrl (s : State) (w : Word) : (acknowledge w s).ctrl = s.ctrl := rfl
@[simp] theorem acknowledge_dwsel (s : State) (w : Word) : (acknowledge w s).dwsel = s.dwsel := rfl
@[simp] theorem acknowledge_dwaddr (s : State) (w : Word) : (acknowledge w s).dwaddr = s.dwaddr := rfl
@[simp] theorem acknowledge_params (s : State) (w : Word) : (acknowledge w s).params = s.params := rfl
@[simp] theorem acknowledge_agenda (s : State) (w : Word) : (acknowledge w s).agenda = s.agenda := rfl
@[simp] theorem acknowledge_response (s : State) (w : Word) : (acknowledge w s).response = s.response := rfl
@[simp] theorem acknowledge_draws (s : State) (w : Word) : (acknowledge w s).draws = s.draws := rfl
@[simp] theorem acknowledge_status (s : State) (w : Word) :
    (acknowledge w s).status = s.status.writeOneClear w := rfl

end Sys2Proof.Machine
end

