-- ==== Sys2Proof/Laws/Ops.lean ====
section
/-! SUPPORT. What the shared operations do, said once: the checks, the two ways a command ends, and the frame of each
kind of write. -/

namespace Sys2Proof.Machine

/-! The checks of R376. -/

@[simp] theorem require_true (c : Cause) (k : Result) : require true c k = k := rfl
@[simp] theorem require_false (c : Cause) (k : Result) : require false c k = .error c := rfl

theorem require_ok {h : Bool} {c : Cause} {k : Result} {t : State} :
    require h c k = .ok t ↔ h = true ∧ k = .ok t := by
  cases h <;> simp

theorem require_error {h : Bool} {c c' : Cause} {k : Result} :
    require h c k = .error c' ↔ (h = false ∧ c' = c) ∨ (h = true ∧ k = .error c') := by
  cases h <;> simp [eq_comm]

theorem withM_ok {s t : State} {k : MSlot} {f : ByteMatrix → Result} :
    withM s k f = .ok t ↔ ∃ m, s.getM k = some m ∧ f m = .ok t := by
  unfold withM; cases s.getM k <;> simp

theorem withV_ok {s t : State} {k : VSlot} {f : List Byte → Result} :
    withV s k f = .ok t ↔ ∃ v, s.getV k = some v ∧ f v = .ok t := by
  unfold withV; cases s.getV k <;> simp

theorem withP_ok {s t : State} {k : PSlot} {f : List Word → Result} :
    withP s k f = .ok t ↔ ∃ p, s.getP k = some p ∧ f p = .ok t := by
  unfold withP; cases s.getP k <;> simp

theorem withM_error {s : State} {k : MSlot} {f : ByteMatrix → Result} {c : Cause} :
    withM s k f = .error c ↔
      (s.getM k = none ∧ c = .unallocatedSlot) ∨ ∃ m, s.getM k = some m ∧ f m = .error c := by
  unfold withM; cases s.getM k <;> simp [eq_comm]

theorem withV_error {s : State} {k : VSlot} {f : List Byte → Result} {c : Cause} :
    withV s k f = .error c ↔
      (s.getV k = none ∧ c = .unallocatedSlot) ∨ ∃ v, s.getV k = some v ∧ f v = .error c := by
  unfold withV; cases s.getV k <;> simp [eq_comm]

theorem withP_error {s : State} {k : PSlot} {f : List Word → Result} {c : Cause} :
    withP s k f = .error c ↔
      (s.getP k = none ∧ c = .unallocatedSlot) ∨ ∃ p, s.getP k = some p ∧ f p = .error c := by
  unfold withP; cases s.getP k <;> simp [eq_comm]

@[simp] theorem withM_some {s : State} {k : MSlot} {m : ByteMatrix} (h : s.getM k = some m) (f : ByteMatrix → Result) :
    withM s k f = f m := by simp [withM, h]

@[simp] theorem withV_some {s : State} {k : VSlot} {v : List Byte} (h : s.getV k = some v) (f : List Byte → Result) :
    withV s k f = f v := by simp [withV, h]

@[simp] theorem withP_some {s : State} {k : PSlot} {p : List Word} (h : s.getP k = some p) (f : List Word → Result) :
    withP s k f = f p := by simp [withP, h]

@[simp] theorem withM_none {s : State} {k : MSlot} (h : s.getM k = none) (f : ByteMatrix → Result) :
    withM s k f = .error .unallocatedSlot := by simp [withM, h]

@[simp] theorem withV_none {s : State} {k : VSlot} (h : s.getV k = none) (f : List Byte → Result) :
    withV s k f = .error .unallocatedSlot := by simp [withV, h]

@[simp] theorem withP_none {s : State} {k : PSlot} (h : s.getP k = none) (f : List Word → Result) :
    withP s k f = .error .unallocatedSlot := by simp [withP, h]

/-! The two ways a command ends. -/

@[simp] theorem finish_ok (s t : State) : finish s (.ok t) = .next (retire t) := rfl
@[simp] theorem finish_error (s : State) (c : Cause) : finish s (.error c) = .next (takeFault c s) := rfl

/-- Everything `finish` can do. -/
theorem finish_cases (s : State) (r : Result) :
    (∃ t, r = .ok t ∧ finish s r = .next (retire t)) ∨ ∃ c, r = .error c ∧ finish s r = .next (takeFault c s) := by
  cases r with
  | ok t => exact .inl ⟨t, rfl, rfl⟩
  | error c => exact .inr ⟨c, rfl, rfl⟩

/-- `takeFault` is fault entry as R380 has it. -/
theorem faultEntry_takeFault (c : Cause) (s : State) : FaultEntry c s (takeFault c s) where
  x := rfl
  m := rfl
  v := rfl
  p := rfl
  ge := rfl
  sv h := by simp [takeFault_sv, h]
  failed h := by simp [takeFault_sv, h]
  cause := rfl
  faultCmd w rest h := by simp [State.headWord, h]
  faultSeq := rfl
  cmdcnt := rfl
  queue := rfl
  fault := rfl
  done := rfl
  signal := rfl
  overrun := rfl
  accerr := rfl
  ctrl := rfl
  dwsel := rfl
  dwaddr := rfl
  params := rfl
  agenda := rfl
  response := rfl
  draws := rfl

/-- A command that ends in an error faults. -/
theorem faults_of_error {i : Instr} {c : Cause} {s : State} (h : exec i s = finish s (.error c)) : Faults i c s :=
  ⟨_, h, faultEntry_takeFault c s⟩

/-! Retiring after each kind of write. -/

theorem retires_setX (s : State) (d : XReg) (w : Word) : Retires s (retire (s.setX d w)) := by
  constructor <;> simp

theorem retires_setM (s : State) (d : MSlot) (o : Option ByteMatrix) : Retires s (retire (s.setM d o)) := by
  constructor <;> simp

theorem retires_setV (s : State) (d : VSlot) (o : Option (List Byte)) : Retires s (retire (s.setV d o)) := by
  constructor <;> simp

theorem retires_setP (s : State) (d : PSlot) (o : Option (List Word)) : Retires s (retire (s.setP d o)) := by
  constructor <;> simp

theorem frame_setX (s : State) (d : XReg) (w : Word) : Frame [.x d] s (retire (s.setX d w)) := by
  constructor <;> simp +contextual

theorem frame_setM (s : State) (d : MSlot) (o : Option ByteMatrix) : Frame [.m d] s (retire (s.setM d o)) := by
  constructor <;> simp +contextual

theorem frame_setV (s : State) (d : VSlot) (o : Option (List Byte)) : Frame [.v d] s (retire (s.setV d o)) := by
  constructor <;> simp +contextual

theorem frame_setP (s : State) (d : PSlot) (o : Option (List Word)) : Frame [.p d] s (retire (s.setP d o)) := by
  constructor <;> simp +contextual

/-- A command that writes one register completes. -/
theorem completes_setX {i : Instr} {s : State} {d : XReg} {w : Word} {post : State → Prop}
    (h : exec i s = finish s (.ok (s.setX d w))) (hp : ∀ t, Wrote d w t → post t) : Completes i [.x d] post s :=
  ⟨_, h, retires_setX s d w, frame_setX s d w, hp _ (by simp [Wrote])⟩

/-- A command that writes one matrix slot completes. -/
theorem completes_setM {i : Instr} {s : State} {d : MSlot} {o : Option ByteMatrix} {post : State → Prop}
    (h : exec i s = finish s (.ok (s.setM d o))) (hp : ∀ t : State, t.getM d = o → post t) :
    Completes i [.m d] post s :=
  ⟨_, h, retires_setM s d o, frame_setM s d o, hp _ (by simp)⟩

/-- A command that writes one vector slot completes. -/
theorem completes_setV {i : Instr} {s : State} {d : VSlot} {o : Option (List Byte)} {post : State → Prop}
    (h : exec i s = finish s (.ok (s.setV d o))) (hp : ∀ t : State, t.getV d = o → post t) :
    Completes i [.v d] post s :=
  ⟨_, h, retires_setV s d o, frame_setV s d o, hp _ (by simp)⟩

/-- A command that writes one index-list slot completes. -/
theorem completes_setP {i : Instr} {s : State} {d : PSlot} {o : Option (List Word)} {post : State → Prop}
    (h : exec i s = finish s (.ok (s.setP d o))) (hp : ∀ t : State, t.getP d = o → post t) :
    Completes i [.p d] post s :=
  ⟨_, h, retires_setP s d o, frame_setP s d o, hp _ (by simp)⟩

end Sys2Proof.Machine
end

