-- ==== Sys2Proof/Laws/Canonical.lean ====
section
/-! SUPPORT. Every operation on the slots keeps the objects in canonical form and within their capacities
(`State.objectsWf`, log 8), and reset has it. -/

namespace Sys2Proof.Machine

/-- `objectsWf`, slot by slot. -/
theorem objectsWf_iff (s : State) : s.objectsWf = true ↔
    (∀ k m, s.getM k = some m → m.wf = true ∧ m.rows ≤ s.params.mMaxDim ∧ m.cols ≤ s.params.mMaxDim) ∧
    (∀ k v, s.getV k = some v → v.length ≤ s.params.vMaxLen) ∧
    ∀ k p, s.getP k = some p → p.length ≤ s.params.pMaxLen := by
  simp only [State.objectsWf, List.all_eq_true, List.mem_finRange, true_implies, Bool.and_eq_true,
    Option.all_eq_true, ByteMatrix.fits, decide_eq_true_eq]
  exact ⟨fun h => ⟨fun k => (h k).1.1, fun k => (h k).1.2, fun k => (h k).2⟩, fun h k => ⟨⟨h.1 k, h.2.1 k⟩, h.2.2 k⟩⟩

/-- `objectsWf` reads the slots and the sizes only. -/
theorem objectsWf_congr {s t : State} (hm : t.m = s.m) (hv : t.v = s.v) (hp : t.p = s.p) (hc : t.params = s.params) :
    t.objectsWf = s.objectsWf := by
  unfold State.objectsWf State.getM State.getV State.getP
  rw [hm, hv, hp, hc]

theorem objectsWf_reset : State.reset.objectsWf = true := by decide

@[simp] theorem objectsWf_setX (s : State) (d : XReg) (w : Word) : (s.setX d w).objectsWf = s.objectsWf :=
  objectsWf_congr (by simp) (by simp) (by simp) (by simp)

@[simp] theorem objectsWf_retire (s : State) : (retire s).objectsWf = s.objectsWf := rfl

@[simp] theorem objectsWf_takeFault (s : State) (c : Cause) : (takeFault c s).objectsWf = s.objectsWf := rfl

@[simp] theorem objectsWf_acknowledge (s : State) (w : Word) : (acknowledge w s).objectsWf = s.objectsWf := rfl

/-- Binding a matrix that is canonical and fits, or freeing the slot, keeps the form. -/
theorem objectsWf_setM {s : State} (h : s.objectsWf = true) (d : MSlot) (o : Option ByteMatrix)
    (ho : ∀ m, o = some m → m.wf = true ∧ m.rows ≤ s.params.mMaxDim ∧ m.cols ≤ s.params.mMaxDim) :
    (s.setM d o).objectsWf = true := by
  rw [objectsWf_iff] at h ⊢
  refine ⟨fun k m hk => ?_, fun k v hk => ?_, fun k p hk => ?_⟩
  · rw [State.getM_setM] at hk
    split at hk
    · exact ho m hk
    · exact h.1 k m hk
  · exact h.2.1 k v (by simpa using hk)
  · exact h.2.2 k p (by simpa using hk)

/-- Binding a vector that fits, or freeing the slot, keeps the form. -/
theorem objectsWf_setV {s : State} (h : s.objectsWf = true) (d : VSlot) (o : Option (List Byte))
    (ho : ∀ v, o = some v → v.length ≤ s.params.vMaxLen) : (s.setV d o).objectsWf = true := by
  rw [objectsWf_iff] at h ⊢
  refine ⟨fun k m hk => ?_, fun k v hk => ?_, fun k p hk => ?_⟩
  · exact h.1 k m (by simpa using hk)
  · rw [State.getV_setV] at hk
    split at hk
    · exact ho v hk
    · exact h.2.1 k v hk
  · exact h.2.2 k p (by simpa using hk)

/-- Binding an index list that fits, or freeing the slot, keeps the form. -/
theorem objectsWf_setP {s : State} (h : s.objectsWf = true) (d : PSlot) (o : Option (List Word))
    (ho : ∀ p, o = some p → p.length ≤ s.params.pMaxLen) : (s.setP d o).objectsWf = true := by
  rw [objectsWf_iff] at h ⊢
  refine ⟨fun k m hk => ?_, fun k v hk => ?_, fun k p hk => ?_⟩
  · exact h.1 k m (by simpa using hk)
  · exact h.2.1 k v (by simpa using hk)
  · rw [State.getP_setP] at hk
    split at hk
    · exact ho p hk
    · exact h.2.2 k p hk

/-- Changing elements in place keeps the form. -/
theorem objectsWf_withElems {s : State} (h : s.objectsWf = true) {k : MSlot} {m : ByteMatrix} (hm : s.getM k = some m)
    (f : Nat → Nat → Byte) : (s.setM k (some (m.withElems f))).objectsWf = true := by
  have hf := ((objectsWf_iff s).mp h).1 k m hm
  refine objectsWf_setM h k _ fun m' hm' => ?_
  cases hm'
  exact ⟨withElems_wf m f, hf.2⟩

end Sys2Proof.Machine
end

