-- ==== Sys2Proof/Laws/Decode.lean ====
section
/-! SUPPORT. What the field extraction reads from a packed word, and what the code tables give back. -/

namespace Sys2Proof

theorem packR_toNat (op : Nat) (a b c d e g : Fin 16) (h : op < 256) :
    (packR op a b c d e g).toNat =
      op * 2 ^ 24 + a.val * 2 ^ 20 + b.val * 2 ^ 16 + c.val * 2 ^ 12 + d.val * 2 ^ 8 + e.val * 2 ^ 4 + g.val := by
  simp only [packR, BitVec.toNat_ofNat]
  omega

theorem packI_toNat (op : Nat) (a b : Fin 16) (imm : BitVec 16) (h : op < 256) :
    (packI op a b imm).toNat = op * 2 ^ 24 + a.val * 2 ^ 20 + b.val * 2 ^ 16 + imm.toNat := by
  have := imm.isLt
  simp only [packI, BitVec.toNat_ofNat]
  omega

/-- The fields of a format R word are the ones packed (R101). -/
theorem fieldsOf_packR (op : Nat) (a b c d e g : Fin 16) (h : op < 256) :
    fieldsOf (packR op a b c d e g) =
      { op := op, a := a, b := b, c := c, d := d, e := e, g := g,
        imm := BitVec.ofNat 16 (c.val * 2 ^ 12 + d.val * 2 ^ 8 + e.val * 2 ^ 4 + g.val) } := by
  simp only [fieldsOf, nibble, packR_toNat op a b c d e g h, Fields.mk.injEq]
  refine ⟨by omega, ?_, ?_, ?_, ?_, ?_, ?_, ?_⟩
  all_goals first
    | (apply Fin.ext; simp only [Fin.ofNat]; omega)
    | (apply BitVec.eq_of_toNat_eq; simp only [BitVec.toNat_ofNat]; omega)

/-- The fields of a format I word: opcode, A, B and the immediate are the ones packed (R102). -/
theorem fieldsOf_packI (op : Nat) (a b : Fin 16) (imm : BitVec 16) (h : op < 256) :
    (fieldsOf (packI op a b imm)).op = op ∧ (fieldsOf (packI op a b imm)).a = a ∧
      (fieldsOf (packI op a b imm)).b = b ∧ (fieldsOf (packI op a b imm)).imm = imm := by
  have := imm.isLt
  simp only [fieldsOf, nibble, packI_toNat op a b imm h]
  refine ⟨by omega, ?_, ?_, ?_⟩
  all_goals first
    | (apply Fin.ext; simp only [Fin.ofNat]; omega)
    | (apply BitVec.eq_of_toNat_eq; simp only [BitVec.toNat_ofNat]; omega)

@[simp] theorem decodeRepr_code (r : ReprCode) : decodeRepr r.code = some r := by cases r <;> rfl
@[simp] theorem decodeInit_code (r : InitCode) : decodeInit r.code = some r := by cases r <;> rfl
@[simp] theorem decodePred_code (r : PredCode) : decodePred r.code = some r := by cases r <;> rfl
@[simp] theorem decodeFlags_code (fl : GeFlags) : decodeFlags fl.code = some fl := by
  obtain ⟨a, b, c⟩ := fl
  cases a <;> cases b <;> cases c <;> rfl

end Sys2Proof
end

