-- ==== Sys2Proof/Laws/PerInstr.lean ====
section
/-! SUPPORT. A fact about every command as syntax: its word carries the opcode of its row and 0 in every field the row
reserves (30_encoding.md R100, R103, R108). -/

namespace Sys2Proof.Laws.EncodeRow

/-- The opcode of a command's row and the fields its row reserves (R108). -/
def row (i : Instr) (f : Fields) : Nat × List (Fin 16) :=
  match i with
  | .nop => (0x00, [f.a, f.b, f.c, f.d, f.e, f.g])
  | .signal => (0x01, [f.a, f.b, f.c, f.d, f.e, f.g])
  | .xli _ _ => (0x08, [f.b])
  | .xlui _ _ => (0x09, [f.b])
  | .xaddi _ _ _ => (0x0A, [])
  | .xmov _ _ => (0x0B, [f.c, f.d, f.e, f.g])
  | .xadd _ _ _ => (0x0C, [f.d, f.e, f.g])
  | .xsub _ _ _ => (0x0D, [f.d, f.e, f.g])
  | .gadd _ _ _ => (0x10, [f.d, f.e, f.g])
  | .gmul _ _ _ => (0x11, [f.d, f.e, f.g])
  | .gdiv _ _ _ => (0x12, [f.d, f.e, f.g])
  | .ginv _ _ => (0x13, [f.c, f.d, f.e, f.g])
  | .gexp _ _ => (0x14, [f.c, f.d, f.e, f.g])
  | .glog _ _ => (0x15, [f.c, f.d, f.e, f.g])
  | .gpow _ _ _ => (0x16, [f.d, f.e, f.g])
  | .valloc _ _ => (0x20, [f.c, f.d, f.e, f.g])
  | .vfree _ => (0x21, [f.b, f.c, f.d, f.e, f.g])
  | .vlen _ _ => (0x22, [f.c, f.d, f.e, f.g])
  | .vget _ _ _ => (0x23, [f.d, f.e, f.g])
  | .vset _ _ _ => (0x24, [f.d, f.e, f.g])
  | .vcopy _ _ => (0x25, [f.c, f.d, f.e, f.g])
  | .vfill _ _ => (0x26, [f.c, f.d, f.e, f.g])
  | .vadd _ _ _ => (0x27, [f.d, f.e, f.g])
  | .vadds _ _ _ => (0x28, [f.d, f.e, f.g])
  | .vmuls _ _ _ => (0x29, [f.d, f.e, f.g])
  | .vdivs _ _ _ => (0x2A, [f.d, f.e, f.g])
  | .vhad _ _ _ => (0x2B, [f.d, f.e, f.g])
  | .vaxpy _ _ _ => (0x2C, [f.d, f.e, f.g])
  | .vdot _ _ _ => (0x2D, [f.d, f.e, f.g])
  | .vswp _ _ _ => (0x2E, [f.d, f.e, f.g])
  | .vslice _ _ _ _ => (0x2F, [f.e, f.g])
  | .vnnz _ _ _ _ => (0x30, [f.e, f.g])
  | .vsel _ _ _ => (0x31, [f.d, f.e, f.g])
  | .palloc _ _ => (0x38, [f.c, f.d, f.e, f.g])
  | .pfree _ => (0x39, [f.b, f.c, f.d, f.e, f.g])
  | .plen _ _ => (0x3A, [f.c, f.d, f.e, f.g])
  | .pget _ _ _ => (0x3B, [f.d, f.e, f.g])
  | .pset _ _ _ => (0x3C, [f.d, f.e, f.g])
  | .pswp _ _ _ => (0x3D, [f.d, f.e, f.g])
  | .pinv _ _ => (0x3E, [f.c, f.d, f.e, f.g])
  | .pcopy _ _ => (0x3F, [f.c, f.d, f.e, f.g])
  | .malloc _ _ _ _ _ => (0x40, [f.d])
  | .mfree _ => (0x41, [f.b, f.c, f.d, f.e, f.g])
  | .mrows _ _ => (0x42, [f.c, f.d, f.e, f.g])
  | .mcols _ _ => (0x43, [f.c, f.d, f.e, f.g])
  | .mrepr _ _ => (0x44, [f.c, f.d, f.e, f.g])
  | .mget _ _ _ _ => (0x45, [f.e, f.g])
  | .mset _ _ _ _ => (0x46, [f.e, f.g])
  | .mgetr _ _ _ => (0x47, [f.d, f.e, f.g])
  | .mgetc _ _ _ => (0x48, [f.d, f.e, f.g])
  | .msetr _ _ _ => (0x49, [f.d, f.e, f.g])
  | .msetc _ _ _ => (0x4A, [f.d, f.e, f.g])
  | .mcopy _ _ _ => (0x4B, [f.c, f.d, f.g])
  | .mswpr _ _ _ => (0x4C, [f.d, f.e, f.g])
  | .mswpc _ _ _ => (0x4D, [f.d, f.e, f.g])
  | .mtrn _ _ _ => (0x4E, [f.c, f.d, f.g])
  | .mrot _ _ _ => (0x4F, [f.c, f.d, f.g])
  | .mslice _ _ _ _ _ _ => (0x50, [])
  | .msltl _ _ _ _ => (0x51, [f.e, f.g])
  | .mslbr _ _ _ _ => (0x52, [f.e, f.g])
  | .msel _ _ _ _ => (0x53, [f.e, f.g])
  | .mselr _ _ _ => (0x54, [f.d, f.e, f.g])
  | .mselc _ _ _ => (0x55, [f.d, f.e, f.g])
  | .mnnz _ _ _ _ _ _ => (0x56, [])
  | .madd _ _ _ _ => (0x60, [f.d, f.g])
  | .madds _ _ _ _ => (0x61, [f.d, f.g])
  | .mmuls _ _ _ _ => (0x62, [f.d, f.g])
  | .mdivs _ _ _ _ => (0x63, [f.d, f.g])
  | .mmul _ _ _ _ => (0x64, [f.d, f.g])
  | .mhad _ _ _ _ => (0x65, [f.d, f.g])
  | .mpow _ _ _ _ => (0x66, [f.d, f.g])
  | .mmulv _ _ _ => (0x67, [f.d, f.e, f.g])
  | .vmulm _ _ _ => (0x68, [f.d, f.e, f.g])
  | .muset _ _ _ _ _ _ => (0x69, [])
  | .muxor _ _ _ _ _ _ => (0x6A, [])
  | .mumul _ _ _ _ _ _ => (0x6B, [])
  | .musetnz _ _ _ _ _ _ => (0x6C, [])
  | .muxornz _ _ _ _ _ _ => (0x6D, [])
  | .mumulnz _ _ _ _ _ _ => (0x6E, [])
  | .mfsum _ _ _ _ _ _ => (0x6F, [])
  | .mfprod _ _ _ _ _ _ => (0x70, [])
  | .mis _ _ _ => (0x71, [f.c, f.d, f.e])
  | .mnon _ _ _ => (0x72, [f.c, f.d, f.e])
  | .gecfg _ _ _ _ _ => (0x80, [f.g])
  | .geswpr _ _ => (0x81, [f.c, f.d, f.e, f.g])
  | .geswpc _ _ => (0x82, [f.c, f.d, f.e, f.g])
  | .gescl _ _ => (0x83, [f.c, f.d, f.e, f.g])
  | .geaxpy _ _ _ => (0x84, [f.d, f.e, f.g])
  | .genorm _ _ => (0x85, [f.c, f.d, f.e, f.g])
  | .geelim _ _ _ _ => (0x86, [f.e, f.g])
  | .gepivf _ _ _ _ => (0x87, [f.e, f.g])
  | .gepivm _ _ _ _ _ => (0x88, [f.g])
  | .gerref _ => (0x89, [f.b, f.c, f.d, f.e, f.g])
  | .svinit _ _ => (0x90, [f.c, f.d, f.e, f.g])
  | .svaddr _ _ => (0x91, [f.c, f.d, f.e, f.g])
  | .svaddm _ _ => (0x92, [f.c, f.d, f.e, f.g])
  | .svrun => (0x93, [f.a, f.b, f.c, f.d, f.e, f.g])
  | .svres _ => (0x94, [f.b, f.c, f.d, f.e, f.g])
  | .svstat _ => (0x95, [f.b, f.c, f.d, f.e, f.g])
  | .svrows _ => (0x96, [f.b, f.c, f.d, f.e, f.g])
  | .svabort => (0x97, [f.a, f.b, f.c, f.d, f.e, f.g])

/-- The word of i carries its row's opcode and zeros in its row's reserved fields. -/
def Statement (i : Instr) : Prop :=
  (fieldsOf (encode i)).op = (row i (fieldsOf (encode i))).1 ∧ ∀ z ∈ (row i (fieldsOf (encode i))).2, z = 0

theorem ofR {i : Instr} (op : Nat) (a b c d e g : Fin 16) (zs : Fields → List (Fin 16))
    (he : encode i = packR op a b c d e g) (hr : row i = fun f => (op, zs f)) (h : op < 256)
    (hz : ∀ imm, ∀ z ∈ zs ⟨op, a, b, c, d, e, g, imm⟩, z = 0) : Statement i := by
  unfold Statement
  rw [he, hr, fieldsOf_packR op a b c d e g h]
  exact ⟨rfl, hz _⟩

theorem ofI {i : Instr} (op : Nat) (a b : Fin 16) (imm : BitVec 16) (zs : Fields → List (Fin 16))
    (he : encode i = packI op a b imm) (hr : row i = fun f => (op, zs f)) (h : op < 256)
    (hz : ∀ f : Fields, f.b = b → ∀ z ∈ zs f, z = 0) : Statement i := by
  obtain ⟨h1, _, h3, _⟩ := fieldsOf_packI op a b imm h
  unfold Statement
  rw [he, hr]
  exact ⟨h1, hz _ h3⟩

theorem nop : Statement .nop :=
  ofR 0x00 0 0 0 0 0 0 (fun f => [f.a, f.b, f.c, f.d, f.e, f.g]) rfl rfl (by decide) (fun _ => by simp)
theorem signal : Statement .signal :=
  ofR 0x01 0 0 0 0 0 0 (fun f => [f.a, f.b, f.c, f.d, f.e, f.g]) rfl rfl (by decide) (fun _ => by simp)
theorem xli (xd : XReg) (imm : BitVec 16) : Statement (.xli xd imm) :=
  ofI 0x08 xd 0 imm (fun f => [f.b]) rfl rfl (by decide) (fun f h => by simp [h])
theorem xlui (xd : XReg) (imm : BitVec 16) : Statement (.xlui xd imm) :=
  ofI 0x09 xd 0 imm (fun f => [f.b]) rfl rfl (by decide) (fun f h => by simp [h])
theorem xaddi (xd : XReg) (xs : XReg) (imm : BitVec 16) : Statement (.xaddi xd xs imm) :=
  ofI 0x0A xd xs imm (fun _ => []) rfl rfl (by decide) (fun f h => by simp)
theorem xmov (xd : XReg) (xs : XReg) : Statement (.xmov xd xs) :=
  ofR 0x0B xd xs 0 0 0 0 (fun f => [f.c, f.d, f.e, f.g]) rfl rfl (by decide) (fun _ => by simp)
theorem xadd (xd : XReg) (xa : XReg) (xb : XReg) : Statement (.xadd xd xa xb) :=
  ofR 0x0C xd xa xb 0 0 0 (fun f => [f.d, f.e, f.g]) rfl rfl (by decide) (fun _ => by simp)
theorem xsub (xd : XReg) (xa : XReg) (xb : XReg) : Statement (.xsub xd xa xb) :=
  ofR 0x0D xd xa xb 0 0 0 (fun f => [f.d, f.e, f.g]) rfl rfl (by decide) (fun _ => by simp)
theorem gadd (xd : XReg) (xa : XReg) (xb : XReg) : Statement (.gadd xd xa xb) :=
  ofR 0x10 xd xa xb 0 0 0 (fun f => [f.d, f.e, f.g]) rfl rfl (by decide) (fun _ => by simp)
theorem gmul (xd : XReg) (xa : XReg) (xb : XReg) : Statement (.gmul xd xa xb) :=
  ofR 0x11 xd xa xb 0 0 0 (fun f => [f.d, f.e, f.g]) rfl rfl (by decide) (fun _ => by simp)
theorem gdiv (xd : XReg) (xa : XReg) (xb : XReg) : Statement (.gdiv xd xa xb) :=
  ofR 0x12 xd xa xb 0 0 0 (fun f => [f.d, f.e, f.g]) rfl rfl (by decide) (fun _ => by simp)
theorem ginv (xd : XReg) (xa : XReg) : Statement (.ginv xd xa) :=
  ofR 0x13 xd xa 0 0 0 0 (fun f => [f.c, f.d, f.e, f.g]) rfl rfl (by decide) (fun _ => by simp)
theorem gexp (xd : XReg) (xa : XReg) : Statement (.gexp xd xa) :=
  ofR 0x14 xd xa 0 0 0 0 (fun f => [f.c, f.d, f.e, f.g]) rfl rfl (by decide) (fun _ => by simp)
theorem glog (xd : XReg) (xa : XReg) : Statement (.glog xd xa) :=
  ofR 0x15 xd xa 0 0 0 0 (fun f => [f.c, f.d, f.e, f.g]) rfl rfl (by decide) (fun _ => by simp)
theorem gpow (xd : XReg) (xa : XReg) (xb : XReg) : Statement (.gpow xd xa xb) :=
  ofR 0x16 xd xa xb 0 0 0 (fun f => [f.d, f.e, f.g]) rfl rfl (by decide) (fun _ => by simp)
theorem valloc (vd : VSlot) (xn : XReg) : Statement (.valloc vd xn) :=
  ofR 0x20 vd xn 0 0 0 0 (fun f => [f.c, f.d, f.e, f.g]) rfl rfl (by decide) (fun _ => by simp)
theorem vfree (vd : VSlot) : Statement (.vfree vd) :=
  ofR 0x21 vd 0 0 0 0 0 (fun f => [f.b, f.c, f.d, f.e, f.g]) rfl rfl (by decide) (fun _ => by simp)
theorem vlen (xd : XReg) (vs : VSlot) : Statement (.vlen xd vs) :=
  ofR 0x22 xd vs 0 0 0 0 (fun f => [f.c, f.d, f.e, f.g]) rfl rfl (by decide) (fun _ => by simp)
theorem vget (xd : XReg) (vs : VSlot) (xi : XReg) : Statement (.vget xd vs xi) :=
  ofR 0x23 xd vs xi 0 0 0 (fun f => [f.d, f.e, f.g]) rfl rfl (by decide) (fun _ => by simp)
theorem vset (vd : VSlot) (xi : XReg) (xv : XReg) : Statement (.vset vd xi xv) :=
  ofR 0x24 vd xi xv 0 0 0 (fun f => [f.d, f.e, f.g]) rfl rfl (by decide) (fun _ => by simp)
theorem vcopy (vd : VSlot) (vs : VSlot) : Statement (.vcopy vd vs) :=
  ofR 0x25 vd vs 0 0 0 0 (fun f => [f.c, f.d, f.e, f.g]) rfl rfl (by decide) (fun _ => by simp)
theorem vfill (vd : VSlot) (xv : XReg) : Statement (.vfill vd xv) :=
  ofR 0x26 vd xv 0 0 0 0 (fun f => [f.c, f.d, f.e, f.g]) rfl rfl (by decide) (fun _ => by simp)
theorem vadd (vd : VSlot) (va : VSlot) (vb : VSlot) : Statement (.vadd vd va vb) :=
  ofR 0x27 vd va vb 0 0 0 (fun f => [f.d, f.e, f.g]) rfl rfl (by decide) (fun _ => by simp)
theorem vadds (vd : VSlot) (va : VSlot) (xc : XReg) : Statement (.vadds vd va xc) :=
  ofR 0x28 vd va xc 0 0 0 (fun f => [f.d, f.e, f.g]) rfl rfl (by decide) (fun _ => by simp)
theorem vmuls (vd : VSlot) (va : VSlot) (xc : XReg) : Statement (.vmuls vd va xc) :=
  ofR 0x29 vd va xc 0 0 0 (fun f => [f.d, f.e, f.g]) rfl rfl (by decide) (fun _ => by simp)
theorem vdivs (vd : VSlot) (va : VSlot) (xc : XReg) : Statement (.vdivs vd va xc) :=
  ofR 0x2A vd va xc 0 0 0 (fun f => [f.d, f.e, f.g]) rfl rfl (by decide) (fun _ => by simp)
theorem vhad (vd : VSlot) (va : VSlot) (vb : VSlot) : Statement (.vhad vd va vb) :=
  ofR 0x2B vd va vb 0 0 0 (fun f => [f.d, f.e, f.g]) rfl rfl (by decide) (fun _ => by simp)
theorem vaxpy (vd : VSlot) (va : VSlot) (xc : XReg) : Statement (.vaxpy vd va xc) :=
  ofR 0x2C vd va xc 0 0 0 (fun f => [f.d, f.e, f.g]) rfl rfl (by decide) (fun _ => by simp)
theorem vdot (xd : XReg) (va : VSlot) (vb : VSlot) : Statement (.vdot xd va vb) :=
  ofR 0x2D xd va vb 0 0 0 (fun f => [f.d, f.e, f.g]) rfl rfl (by decide) (fun _ => by simp)
theorem vswp (vd : VSlot) (xi : XReg) (xj : XReg) : Statement (.vswp vd xi xj) :=
  ofR 0x2E vd xi xj 0 0 0 (fun f => [f.d, f.e, f.g]) rfl rfl (by decide) (fun _ => by simp)
theorem vslice (vd : VSlot) (va : VSlot) (xlo : XReg) (xhi : XReg) : Statement (.vslice vd va xlo xhi) :=
  ofR 0x2F vd va xlo xhi 0 0 (fun f => [f.e, f.g]) rfl rfl (by decide) (fun _ => by simp)
theorem vnnz (xd : XReg) (va : VSlot) (xlo : XReg) (xhi : XReg) : Statement (.vnnz xd va xlo xhi) :=
  ofR 0x30 xd va xlo xhi 0 0 (fun f => [f.e, f.g]) rfl rfl (by decide) (fun _ => by simp)
theorem vsel (vd : VSlot) (va : VSlot) (pi : PSlot) : Statement (.vsel vd va pi) :=
  ofR 0x31 vd va pi 0 0 0 (fun f => [f.d, f.e, f.g]) rfl rfl (by decide) (fun _ => by simp)
theorem palloc (pd : PSlot) (xn : XReg) : Statement (.palloc pd xn) :=
  ofR 0x38 pd xn 0 0 0 0 (fun f => [f.c, f.d, f.e, f.g]) rfl rfl (by decide) (fun _ => by simp)
theorem pfree (pd : PSlot) : Statement (.pfree pd) :=
  ofR 0x39 pd 0 0 0 0 0 (fun f => [f.b, f.c, f.d, f.e, f.g]) rfl rfl (by decide) (fun _ => by simp)
theorem plen (xd : XReg) (ps : PSlot) : Statement (.plen xd ps) :=
  ofR 0x3A xd ps 0 0 0 0 (fun f => [f.c, f.d, f.e, f.g]) rfl rfl (by decide) (fun _ => by simp)
theorem pget (xd : XReg) (ps : PSlot) (xi : XReg) : Statement (.pget xd ps xi) :=
  ofR 0x3B xd ps xi 0 0 0 (fun f => [f.d, f.e, f.g]) rfl rfl (by decide) (fun _ => by simp)
theorem pset (pd : PSlot) (xi : XReg) (xv : XReg) : Statement (.pset pd xi xv) :=
  ofR 0x3C pd xi xv 0 0 0 (fun f => [f.d, f.e, f.g]) rfl rfl (by decide) (fun _ => by simp)
theorem pswp (pd : PSlot) (xi : XReg) (xj : XReg) : Statement (.pswp pd xi xj) :=
  ofR 0x3D pd xi xj 0 0 0 (fun f => [f.d, f.e, f.g]) rfl rfl (by decide) (fun _ => by simp)
theorem pinv (pd : PSlot) (ps : PSlot) : Statement (.pinv pd ps) :=
  ofR 0x3E pd ps 0 0 0 0 (fun f => [f.c, f.d, f.e, f.g]) rfl rfl (by decide) (fun _ => by simp)
theorem pcopy (pd : PSlot) (ps : PSlot) : Statement (.pcopy pd ps) :=
  ofR 0x3F pd ps 0 0 0 0 (fun f => [f.c, f.d, f.e, f.g]) rfl rfl (by decide) (fun _ => by simp)
theorem malloc (md : MSlot) (xr : XReg) (xc : XReg) (rep : ReprCode) (ini : InitCode) : Statement (.malloc md xr xc rep ini) :=
  ofR 0x40 md xr xc 0 rep.code ini.code (fun f => [f.d]) rfl rfl (by decide) (fun _ => by simp)
theorem mfree (md : MSlot) : Statement (.mfree md) :=
  ofR 0x41 md 0 0 0 0 0 (fun f => [f.b, f.c, f.d, f.e, f.g]) rfl rfl (by decide) (fun _ => by simp)
theorem mrows (xd : XReg) (ms : MSlot) : Statement (.mrows xd ms) :=
  ofR 0x42 xd ms 0 0 0 0 (fun f => [f.c, f.d, f.e, f.g]) rfl rfl (by decide) (fun _ => by simp)
theorem mcols (xd : XReg) (ms : MSlot) : Statement (.mcols xd ms) :=
  ofR 0x43 xd ms 0 0 0 0 (fun f => [f.c, f.d, f.e, f.g]) rfl rfl (by decide) (fun _ => by simp)
theorem mrepr (xd : XReg) (ms : MSlot) : Statement (.mrepr xd ms) :=
  ofR 0x44 xd ms 0 0 0 0 (fun f => [f.c, f.d, f.e, f.g]) rfl rfl (by decide) (fun _ => by simp)
theorem mget (xd : XReg) (ms : MSlot) (xr : XReg) (xc : XReg) : Statement (.mget xd ms xr xc) :=
  ofR 0x45 xd ms xr xc 0 0 (fun f => [f.e, f.g]) rfl rfl (by decide) (fun _ => by simp)
theorem mset (md : MSlot) (xr : XReg) (xc : XReg) (xv : XReg) : Statement (.mset md xr xc xv) :=
  ofR 0x46 md xr xc xv 0 0 (fun f => [f.e, f.g]) rfl rfl (by decide) (fun _ => by simp)
theorem mgetr (vd : VSlot) (ms : MSlot) (xr : XReg) : Statement (.mgetr vd ms xr) :=
  ofR 0x47 vd ms xr 0 0 0 (fun f => [f.d, f.e, f.g]) rfl rfl (by decide) (fun _ => by simp)
theorem mgetc (vd : VSlot) (ms : MSlot) (xc : XReg) : Statement (.mgetc vd ms xc) :=
  ofR 0x48 vd ms xc 0 0 0 (fun f => [f.d, f.e, f.g]) rfl rfl (by decide) (fun _ => by simp)
theorem msetr (md : MSlot) (xr : XReg) (vs : VSlot) : Statement (.msetr md xr vs) :=
  ofR 0x49 md xr vs 0 0 0 (fun f => [f.d, f.e, f.g]) rfl rfl (by decide) (fun _ => by simp)
theorem msetc (md : MSlot) (xc : XReg) (vs : VSlot) : Statement (.msetc md xc vs) :=
  ofR 0x4A md xc vs 0 0 0 (fun f => [f.d, f.e, f.g]) rfl rfl (by decide) (fun _ => by simp)
theorem mcopy (md : MSlot) (ms : MSlot) (rep : ReprCode) : Statement (.mcopy md ms rep) :=
  ofR 0x4B md ms 0 0 rep.code 0 (fun f => [f.c, f.d, f.g]) rfl rfl (by decide) (fun _ => by simp)
theorem mswpr (md : MSlot) (xi : XReg) (xj : XReg) : Statement (.mswpr md xi xj) :=
  ofR 0x4C md xi xj 0 0 0 (fun f => [f.d, f.e, f.g]) rfl rfl (by decide) (fun _ => by simp)
theorem mswpc (md : MSlot) (xi : XReg) (xj : XReg) : Statement (.mswpc md xi xj) :=
  ofR 0x4D md xi xj 0 0 0 (fun f => [f.d, f.e, f.g]) rfl rfl (by decide) (fun _ => by simp)
theorem mtrn (md : MSlot) (ms : MSlot) (rep : ReprCode) : Statement (.mtrn md ms rep) :=
  ofR 0x4E md ms 0 0 rep.code 0 (fun f => [f.c, f.d, f.g]) rfl rfl (by decide) (fun _ => by simp)
theorem mrot (md : MSlot) (ms : MSlot) (rep : ReprCode) : Statement (.mrot md ms rep) :=
  ofR 0x4F md ms 0 0 rep.code 0 (fun f => [f.c, f.d, f.g]) rfl rfl (by decide) (fun _ => by simp)
theorem mslice (md : MSlot) (ms : MSlot) (xr0 : XReg) (xc0 : XReg) (xr1 : XReg) (xc1 : XReg) : Statement (.mslice md ms xr0 xc0 xr1 xc1) :=
  ofR 0x50 md ms xr0 xc0 xr1 xc1 (fun _ => []) rfl rfl (by decide) (fun _ => by simp)
theorem msltl (md : MSlot) (ms : MSlot) (xr1 : XReg) (xc1 : XReg) : Statement (.msltl md ms xr1 xc1) :=
  ofR 0x51 md ms xr1 xc1 0 0 (fun f => [f.e, f.g]) rfl rfl (by decide) (fun _ => by simp)
theorem mslbr (md : MSlot) (ms : MSlot) (xr0 : XReg) (xc0 : XReg) : Statement (.mslbr md ms xr0 xc0) :=
  ofR 0x52 md ms xr0 xc0 0 0 (fun f => [f.e, f.g]) rfl rfl (by decide) (fun _ => by simp)
theorem msel (md : MSlot) (ms : MSlot) (pr : PSlot) (pc : PSlot) : Statement (.msel md ms pr pc) :=
  ofR 0x53 md ms pr pc 0 0 (fun f => [f.e, f.g]) rfl rfl (by decide) (fun _ => by simp)
theorem mselr (md : MSlot) (ms : MSlot) (pr : PSlot) : Statement (.mselr md ms pr) :=
  ofR 0x54 md ms pr 0 0 0 (fun f => [f.d, f.e, f.g]) rfl rfl (by decide) (fun _ => by simp)
theorem mselc (md : MSlot) (ms : MSlot) (pc : PSlot) : Statement (.mselc md ms pc) :=
  ofR 0x55 md ms pc 0 0 0 (fun f => [f.d, f.e, f.g]) rfl rfl (by decide) (fun _ => by simp)
theorem mnnz (xd : XReg) (ms : MSlot) (xr0 : XReg) (xc0 : XReg) (xr1 : XReg) (xc1 : XReg) : Statement (.mnnz xd ms xr0 xc0 xr1 xc1) :=
  ofR 0x56 xd ms xr0 xc0 xr1 xc1 (fun _ => []) rfl rfl (by decide) (fun _ => by simp)
theorem madd (md : MSlot) (ma : MSlot) (mb : MSlot) (rep : ReprCode) : Statement (.madd md ma mb rep) :=
  ofR 0x60 md ma mb 0 rep.code 0 (fun f => [f.d, f.g]) rfl rfl (by decide) (fun _ => by simp)
theorem madds (md : MSlot) (ma : MSlot) (xc : XReg) (rep : ReprCode) : Statement (.madds md ma xc rep) :=
  ofR 0x61 md ma xc 0 rep.code 0 (fun f => [f.d, f.g]) rfl rfl (by decide) (fun _ => by simp)
theorem mmuls (md : MSlot) (ma : MSlot) (xc : XReg) (rep : ReprCode) : Statement (.mmuls md ma xc rep) :=
  ofR 0x62 md ma xc 0 rep.code 0 (fun f => [f.d, f.g]) rfl rfl (by decide) (fun _ => by simp)
theorem mdivs (md : MSlot) (ma : MSlot) (xc : XReg) (rep : ReprCode) : Statement (.mdivs md ma xc rep) :=
  ofR 0x63 md ma xc 0 rep.code 0 (fun f => [f.d, f.g]) rfl rfl (by decide) (fun _ => by simp)
theorem mmul (md : MSlot) (ma : MSlot) (mb : MSlot) (rep : ReprCode) : Statement (.mmul md ma mb rep) :=
  ofR 0x64 md ma mb 0 rep.code 0 (fun f => [f.d, f.g]) rfl rfl (by decide) (fun _ => by simp)
theorem mhad (md : MSlot) (ma : MSlot) (mb : MSlot) (rep : ReprCode) : Statement (.mhad md ma mb rep) :=
  ofR 0x65 md ma mb 0 rep.code 0 (fun f => [f.d, f.g]) rfl rfl (by decide) (fun _ => by simp)
theorem mpow (md : MSlot) (ma : MSlot) (xn : XReg) (rep : ReprCode) : Statement (.mpow md ma xn rep) :=
  ofR 0x66 md ma xn 0 rep.code 0 (fun f => [f.d, f.g]) rfl rfl (by decide) (fun _ => by simp)
theorem mmulv (vd : VSlot) (ma : MSlot) (vb : VSlot) : Statement (.mmulv vd ma vb) :=
  ofR 0x67 vd ma vb 0 0 0 (fun f => [f.d, f.e, f.g]) rfl rfl (by decide) (fun _ => by simp)
theorem vmulm (vd : VSlot) (va : VSlot) (mb : MSlot) : Statement (.vmulm vd va mb) :=
  ofR 0x68 vd va mb 0 0 0 (fun f => [f.d, f.e, f.g]) rfl rfl (by decide) (fun _ => by simp)
theorem muset (md : MSlot) (xc : XReg) (xr0 : XReg) (xc0 : XReg) (xr1 : XReg) (xc1 : XReg) : Statement (.muset md xc xr0 xc0 xr1 xc1) :=
  ofR 0x69 md xc xr0 xc0 xr1 xc1 (fun _ => []) rfl rfl (by decide) (fun _ => by simp)
theorem muxor (md : MSlot) (xc : XReg) (xr0 : XReg) (xc0 : XReg) (xr1 : XReg) (xc1 : XReg) : Statement (.muxor md xc xr0 xc0 xr1 xc1) :=
  ofR 0x6A md xc xr0 xc0 xr1 xc1 (fun _ => []) rfl rfl (by decide) (fun _ => by simp)
theorem mumul (md : MSlot) (xc : XReg) (xr0 : XReg) (xc0 : XReg) (xr1 : XReg) (xc1 : XReg) : Statement (.mumul md xc xr0 xc0 xr1 xc1) :=
  ofR 0x6B md xc xr0 xc0 xr1 xc1 (fun _ => []) rfl rfl (by decide) (fun _ => by simp)
theorem musetnz (md : MSlot) (xc : XReg) (xr0 : XReg) (xc0 : XReg) (xr1 : XReg) (xc1 : XReg) : Statement (.musetnz md xc xr0 xc0 xr1 xc1) :=
  ofR 0x6C md xc xr0 xc0 xr1 xc1 (fun _ => []) rfl rfl (by decide) (fun _ => by simp)
theorem muxornz (md : MSlot) (xc : XReg) (xr0 : XReg) (xc0 : XReg) (xr1 : XReg) (xc1 : XReg) : Statement (.muxornz md xc xr0 xc0 xr1 xc1) :=
  ofR 0x6D md xc xr0 xc0 xr1 xc1 (fun _ => []) rfl rfl (by decide) (fun _ => by simp)
theorem mumulnz (md : MSlot) (xc : XReg) (xr0 : XReg) (xc0 : XReg) (xr1 : XReg) (xc1 : XReg) : Statement (.mumulnz md xc xr0 xc0 xr1 xc1) :=
  ofR 0x6E md xc xr0 xc0 xr1 xc1 (fun _ => []) rfl rfl (by decide) (fun _ => by simp)
theorem mfsum (xd : XReg) (ms : MSlot) (xr0 : XReg) (xc0 : XReg) (xr1 : XReg) (xc1 : XReg) : Statement (.mfsum xd ms xr0 xc0 xr1 xc1) :=
  ofR 0x6F xd ms xr0 xc0 xr1 xc1 (fun _ => []) rfl rfl (by decide) (fun _ => by simp)
theorem mfprod (xd : XReg) (ms : MSlot) (xr0 : XReg) (xc0 : XReg) (xr1 : XReg) (xc1 : XReg) : Statement (.mfprod xd ms xr0 xc0 xr1 xc1) :=
  ofR 0x70 xd ms xr0 xc0 xr1 xc1 (fun _ => []) rfl rfl (by decide) (fun _ => by simp)
theorem mis (xd : XReg) (ms : MSlot) (prd : PredCode) : Statement (.mis xd ms prd) :=
  ofR 0x71 xd ms 0 0 0 prd.code (fun f => [f.c, f.d, f.e]) rfl rfl (by decide) (fun _ => by simp)
theorem mnon (xd : XReg) (ms : MSlot) (prd : PredCode) : Statement (.mnon xd ms prd) :=
  ofR 0x72 xd ms 0 0 0 prd.code (fun f => [f.c, f.d, f.e]) rfl rfl (by decide) (fun _ => by simp)
theorem gecfg (ma : MSlot) (md : MSlot) (pr : PSlot) (pc : PSlot) (fl : GeFlags) : Statement (.gecfg ma md pr pc fl) :=
  ofR 0x80 ma md pr pc fl.code 0 (fun f => [f.g]) rfl rfl (by decide) (fun _ => by simp)
theorem geswpr (xi : XReg) (xj : XReg) : Statement (.geswpr xi xj) :=
  ofR 0x81 xi xj 0 0 0 0 (fun f => [f.c, f.d, f.e, f.g]) rfl rfl (by decide) (fun _ => by simp)
theorem geswpc (xi : XReg) (xj : XReg) : Statement (.geswpc xi xj) :=
  ofR 0x82 xi xj 0 0 0 0 (fun f => [f.c, f.d, f.e, f.g]) rfl rfl (by decide) (fun _ => by simp)
theorem gescl (xr : XReg) (xb : XReg) : Statement (.gescl xr xb) :=
  ofR 0x83 xr xb 0 0 0 0 (fun f => [f.c, f.d, f.e, f.g]) rfl rfl (by decide) (fun _ => by simp)
theorem geaxpy (xi : XReg) (xr : XReg) (xb : XReg) : Statement (.geaxpy xi xr xb) :=
  ofR 0x84 xi xr xb 0 0 0 (fun f => [f.d, f.e, f.g]) rfl rfl (by decide) (fun _ => by simp)
theorem genorm (xr : XReg) (xc : XReg) : Statement (.genorm xr xc) :=
  ofR 0x85 xr xc 0 0 0 0 (fun f => [f.c, f.d, f.e, f.g]) rfl rfl (by decide) (fun _ => by simp)
theorem geelim (xr : XReg) (xc : XReg) (xlo : XReg) (xhi : XReg) : Statement (.geelim xr xc xlo xhi) :=
  ofR 0x86 xr xc xlo xhi 0 0 (fun f => [f.e, f.g]) rfl rfl (by decide) (fun _ => by simp)
theorem gepivf (xd : XReg) (xc : XReg) (xlo : XReg) (xhi : XReg) : Statement (.gepivf xd xc xlo xhi) :=
  ofR 0x87 xd xc xlo xhi 0 0 (fun f => [f.e, f.g]) rfl rfl (by decide) (fun _ => by simp)
theorem gepivm (xd : XReg) (xr0 : XReg) (xc0 : XReg) (xr1 : XReg) (xc1 : XReg) : Statement (.gepivm xd xr0 xc0 xr1 xc1) :=
  ofR 0x88 xd xr0 xc0 xr1 xc1 0 (fun f => [f.g]) rfl rfl (by decide) (fun _ => by simp)
theorem gerref (xd : XReg) : Statement (.gerref xd) :=
  ofR 0x89 xd 0 0 0 0 0 (fun f => [f.b, f.c, f.d, f.e, f.g]) rfl rfl (by decide) (fun _ => by simp)
theorem svinit (xl : XReg) (xt : XReg) : Statement (.svinit xl xt) :=
  ofR 0x90 xl xt 0 0 0 0 (fun f => [f.c, f.d, f.e, f.g]) rfl rfl (by decide) (fun _ => by simp)
theorem svaddr (vr : VSlot) (vs : VSlot) : Statement (.svaddr vr vs) :=
  ofR 0x91 vr vs 0 0 0 0 (fun f => [f.c, f.d, f.e, f.g]) rfl rfl (by decide) (fun _ => by simp)
theorem svaddm (ma : MSlot) (md : MSlot) : Statement (.svaddm ma md) :=
  ofR 0x92 ma md 0 0 0 0 (fun f => [f.c, f.d, f.e, f.g]) rfl rfl (by decide) (fun _ => by simp)
theorem svrun : Statement .svrun :=
  ofR 0x93 0 0 0 0 0 0 (fun f => [f.a, f.b, f.c, f.d, f.e, f.g]) rfl rfl (by decide) (fun _ => by simp)
theorem svres (md : MSlot) : Statement (.svres md) :=
  ofR 0x94 md 0 0 0 0 0 (fun f => [f.b, f.c, f.d, f.e, f.g]) rfl rfl (by decide) (fun _ => by simp)
theorem svstat (xd : XReg) : Statement (.svstat xd) :=
  ofR 0x95 xd 0 0 0 0 0 (fun f => [f.b, f.c, f.d, f.e, f.g]) rfl rfl (by decide) (fun _ => by simp)
theorem svrows (xd : XReg) : Statement (.svrows xd) :=
  ofR 0x96 xd 0 0 0 0 0 (fun f => [f.b, f.c, f.d, f.e, f.g]) rfl rfl (by decide) (fun _ => by simp)
theorem svabort : Statement .svabort :=
  ofR 0x97 0 0 0 0 0 0 (fun f => [f.a, f.b, f.c, f.d, f.e, f.g]) rfl rfl (by decide) (fun _ => by simp)

end Sys2Proof.Laws.EncodeRow
end

