-- ==== Sys2Proof/Machine/Assembler.lean ====
section
/-! DEFINITION. The assembler (30_encoding.md R112): a command's text, the pseudo-commands (R113), and reading a line of
text. None of it is part of the machine: a pseudo-command is "assembled to the commands on the right and has exactly
their effect". -/

namespace Sys2Proof

/-- A `#repr` operand by name (R112). -/
def ReprCode.text : ReprCode → String
  | .inherit => "INHERIT"
  | .denseRow => "DENSE_ROW"
  | .denseCol => "DENSE_COL"
  | .sparse => "SPARSE"

/-- An `#init` operand by name (R112). -/
def InitCode.text : InitCode → String
  | .zero => "ZERO"
  | .identity => "IDENTITY"

/-- A `#pred` operand by its name in R106. -/
def PredCode.text : PredCode → String
  | .zero => "ZERO"
  | .nonzero => "NONZERO"
  | .one => "ONE"
  | .identity => "IDENTITY"
  | .diagonal => "DIAGONAL"
  | .upperTriangular => "UPPER_TRIANGULAR"
  | .lowerTriangular => "LOWER_TRIANGULAR"
  | .symmetric => "SYMMETRIC"

/-- A `#flags` operand: a `|`-joined list, or `0` (R112). -/
def GeFlags.text (fl : GeFlags) : String :=
  let names := (if fl.hasD then ["HASD"] else []) ++ (if fl.hasPR then ["HASPR"] else []) ++
    (if fl.hasPC then ["HASPC"] else [])
  if names.isEmpty then "0" else "|".intercalate names

/-- A register or slot operand: its letter and its number (R112). -/
def numbered (letter : String) (k : Fin 16) : String := letter ++ toString k.val

/-- A command's line: the mnemonic, then the operands separated by commas (R112). -/
def asmLine (mnemonic : String) (operands : List String) : String :=
  if operands.isEmpty then mnemonic else mnemonic ++ " " ++ ", ".intercalate operands

/-- The text of a command, one arm per row of R108, the operands of its `syntax` column. -/
def Instr.text (i : Instr) : String :=
  match i with
  | .nop => asmLine "NOP" []
  | .signal => asmLine "SIGNAL" []
  | .xli xd imm => asmLine "XLI" [numbered "X" xd, toString imm.toNat]
  | .xlui xd imm => asmLine "XLUI" [numbered "X" xd, toString imm.toNat]
  | .xaddi xd xs imm => asmLine "XADDI" [numbered "X" xd, numbered "X" xs, toString imm.toInt]
  | .xmov xd xs => asmLine "XMOV" [numbered "X" xd, numbered "X" xs]
  | .xadd xd xa xb => asmLine "XADD" [numbered "X" xd, numbered "X" xa, numbered "X" xb]
  | .xsub xd xa xb => asmLine "XSUB" [numbered "X" xd, numbered "X" xa, numbered "X" xb]
  | .gadd xd xa xb => asmLine "GADD" [numbered "X" xd, numbered "X" xa, numbered "X" xb]
  | .gmul xd xa xb => asmLine "GMUL" [numbered "X" xd, numbered "X" xa, numbered "X" xb]
  | .gdiv xd xa xb => asmLine "GDIV" [numbered "X" xd, numbered "X" xa, numbered "X" xb]
  | .ginv xd xa => asmLine "GINV" [numbered "X" xd, numbered "X" xa]
  | .gexp xd xa => asmLine "GEXP" [numbered "X" xd, numbered "X" xa]
  | .glog xd xa => asmLine "GLOG" [numbered "X" xd, numbered "X" xa]
  | .gpow xd xa xb => asmLine "GPOW" [numbered "X" xd, numbered "X" xa, numbered "X" xb]
  | .valloc vd xn => asmLine "VALLOC" [numbered "V" vd, numbered "X" xn]
  | .vfree vd => asmLine "VFREE" [numbered "V" vd]
  | .vlen xd vs => asmLine "VLEN" [numbered "X" xd, numbered "V" vs]
  | .vget xd vs xi => asmLine "VGET" [numbered "X" xd, numbered "V" vs, numbered "X" xi]
  | .vset vd xi xv => asmLine "VSET" [numbered "V" vd, numbered "X" xi, numbered "X" xv]
  | .vcopy vd vs => asmLine "VCOPY" [numbered "V" vd, numbered "V" vs]
  | .vfill vd xv => asmLine "VFILL" [numbered "V" vd, numbered "X" xv]
  | .vadd vd va vb => asmLine "VADD" [numbered "V" vd, numbered "V" va, numbered "V" vb]
  | .vadds vd va xc => asmLine "VADDS" [numbered "V" vd, numbered "V" va, numbered "X" xc]
  | .vmuls vd va xc => asmLine "VMULS" [numbered "V" vd, numbered "V" va, numbered "X" xc]
  | .vdivs vd va xc => asmLine "VDIVS" [numbered "V" vd, numbered "V" va, numbered "X" xc]
  | .vhad vd va vb => asmLine "VHAD" [numbered "V" vd, numbered "V" va, numbered "V" vb]
  | .vaxpy vd va xc => asmLine "VAXPY" [numbered "V" vd, numbered "V" va, numbered "X" xc]
  | .vdot xd va vb => asmLine "VDOT" [numbered "X" xd, numbered "V" va, numbered "V" vb]
  | .vswp vd xi xj => asmLine "VSWP" [numbered "V" vd, numbered "X" xi, numbered "X" xj]
  | .vslice vd va xlo xhi => asmLine "VSLICE" [numbered "V" vd, numbered "V" va, numbered "X" xlo, numbered "X" xhi]
  | .vnnz xd va xlo xhi => asmLine "VNNZ" [numbered "X" xd, numbered "V" va, numbered "X" xlo, numbered "X" xhi]
  | .vsel vd va pi => asmLine "VSEL" [numbered "V" vd, numbered "V" va, numbered "P" pi]
  | .palloc pd xn => asmLine "PALLOC" [numbered "P" pd, numbered "X" xn]
  | .pfree pd => asmLine "PFREE" [numbered "P" pd]
  | .plen xd ps => asmLine "PLEN" [numbered "X" xd, numbered "P" ps]
  | .pget xd ps xi => asmLine "PGET" [numbered "X" xd, numbered "P" ps, numbered "X" xi]
  | .pset pd xi xv => asmLine "PSET" [numbered "P" pd, numbered "X" xi, numbered "X" xv]
  | .pswp pd xi xj => asmLine "PSWP" [numbered "P" pd, numbered "X" xi, numbered "X" xj]
  | .pinv pd ps => asmLine "PINV" [numbered "P" pd, numbered "P" ps]
  | .pcopy pd ps => asmLine "PCOPY" [numbered "P" pd, numbered "P" ps]
  | .malloc md xr xc rep ini => asmLine "MALLOC" [numbered "M" md, numbered "X" xr, numbered "X" xc, rep.text, ini.text]
  | .mfree md => asmLine "MFREE" [numbered "M" md]
  | .mrows xd ms => asmLine "MROWS" [numbered "X" xd, numbered "M" ms]
  | .mcols xd ms => asmLine "MCOLS" [numbered "X" xd, numbered "M" ms]
  | .mrepr xd ms => asmLine "MREPR" [numbered "X" xd, numbered "M" ms]
  | .mget xd ms xr xc => asmLine "MGET" [numbered "X" xd, numbered "M" ms, numbered "X" xr, numbered "X" xc]
  | .mset md xr xc xv => asmLine "MSET" [numbered "M" md, numbered "X" xr, numbered "X" xc, numbered "X" xv]
  | .mgetr vd ms xr => asmLine "MGETR" [numbered "V" vd, numbered "M" ms, numbered "X" xr]
  | .mgetc vd ms xc => asmLine "MGETC" [numbered "V" vd, numbered "M" ms, numbered "X" xc]
  | .msetr md xr vs => asmLine "MSETR" [numbered "M" md, numbered "X" xr, numbered "V" vs]
  | .msetc md xc vs => asmLine "MSETC" [numbered "M" md, numbered "X" xc, numbered "V" vs]
  | .mcopy md ms rep => asmLine "MCOPY" [numbered "M" md, numbered "M" ms, rep.text]
  | .mswpr md xi xj => asmLine "MSWPR" [numbered "M" md, numbered "X" xi, numbered "X" xj]
  | .mswpc md xi xj => asmLine "MSWPC" [numbered "M" md, numbered "X" xi, numbered "X" xj]
  | .mtrn md ms rep => asmLine "MTRN" [numbered "M" md, numbered "M" ms, rep.text]
  | .mrot md ms rep => asmLine "MROT" [numbered "M" md, numbered "M" ms, rep.text]
  | .mslice md ms xr0 xc0 xr1 xc1 => asmLine "MSLICE" [numbered "M" md, numbered "M" ms, numbered "X" xr0, numbered "X" xc0, numbered "X" xr1, numbered "X" xc1]
  | .msltl md ms xr1 xc1 => asmLine "MSLTL" [numbered "M" md, numbered "M" ms, numbered "X" xr1, numbered "X" xc1]
  | .mslbr md ms xr0 xc0 => asmLine "MSLBR" [numbered "M" md, numbered "M" ms, numbered "X" xr0, numbered "X" xc0]
  | .msel md ms pr pc => asmLine "MSEL" [numbered "M" md, numbered "M" ms, numbered "P" pr, numbered "P" pc]
  | .mselr md ms pr => asmLine "MSELR" [numbered "M" md, numbered "M" ms, numbered "P" pr]
  | .mselc md ms pc => asmLine "MSELC" [numbered "M" md, numbered "M" ms, numbered "P" pc]
  | .mnnz xd ms xr0 xc0 xr1 xc1 => asmLine "MNNZ" [numbered "X" xd, numbered "M" ms, numbered "X" xr0, numbered "X" xc0, numbered "X" xr1, numbered "X" xc1]
  | .madd md ma mb rep => asmLine "MADD" [numbered "M" md, numbered "M" ma, numbered "M" mb, rep.text]
  | .madds md ma xc rep => asmLine "MADDS" [numbered "M" md, numbered "M" ma, numbered "X" xc, rep.text]
  | .mmuls md ma xc rep => asmLine "MMULS" [numbered "M" md, numbered "M" ma, numbered "X" xc, rep.text]
  | .mdivs md ma xc rep => asmLine "MDIVS" [numbered "M" md, numbered "M" ma, numbered "X" xc, rep.text]
  | .mmul md ma mb rep => asmLine "MMUL" [numbered "M" md, numbered "M" ma, numbered "M" mb, rep.text]
  | .mhad md ma mb rep => asmLine "MHAD" [numbered "M" md, numbered "M" ma, numbered "M" mb, rep.text]
  | .mpow md ma xn rep => asmLine "MPOW" [numbered "M" md, numbered "M" ma, numbered "X" xn, rep.text]
  | .mmulv vd ma vb => asmLine "MMULV" [numbered "V" vd, numbered "M" ma, numbered "V" vb]
  | .vmulm vd va mb => asmLine "VMULM" [numbered "V" vd, numbered "V" va, numbered "M" mb]
  | .muset md xc xr0 xc0 xr1 xc1 => asmLine "MUSET" [numbered "M" md, numbered "X" xc, numbered "X" xr0, numbered "X" xc0, numbered "X" xr1, numbered "X" xc1]
  | .muxor md xc xr0 xc0 xr1 xc1 => asmLine "MUXOR" [numbered "M" md, numbered "X" xc, numbered "X" xr0, numbered "X" xc0, numbered "X" xr1, numbered "X" xc1]
  | .mumul md xc xr0 xc0 xr1 xc1 => asmLine "MUMUL" [numbered "M" md, numbered "X" xc, numbered "X" xr0, numbered "X" xc0, numbered "X" xr1, numbered "X" xc1]
  | .musetnz md xc xr0 xc0 xr1 xc1 => asmLine "MUSETNZ" [numbered "M" md, numbered "X" xc, numbered "X" xr0, numbered "X" xc0, numbered "X" xr1, numbered "X" xc1]
  | .muxornz md xc xr0 xc0 xr1 xc1 => asmLine "MUXORNZ" [numbered "M" md, numbered "X" xc, numbered "X" xr0, numbered "X" xc0, numbered "X" xr1, numbered "X" xc1]
  | .mumulnz md xc xr0 xc0 xr1 xc1 => asmLine "MUMULNZ" [numbered "M" md, numbered "X" xc, numbered "X" xr0, numbered "X" xc0, numbered "X" xr1, numbered "X" xc1]
  | .mfsum xd ms xr0 xc0 xr1 xc1 => asmLine "MFSUM" [numbered "X" xd, numbered "M" ms, numbered "X" xr0, numbered "X" xc0, numbered "X" xr1, numbered "X" xc1]
  | .mfprod xd ms xr0 xc0 xr1 xc1 => asmLine "MFPROD" [numbered "X" xd, numbered "M" ms, numbered "X" xr0, numbered "X" xc0, numbered "X" xr1, numbered "X" xc1]
  | .mis xd ms prd => asmLine "MIS" [numbered "X" xd, numbered "M" ms, prd.text]
  | .mnon xd ms prd => asmLine "MNON" [numbered "X" xd, numbered "M" ms, prd.text]
  | .gecfg ma md pr pc fl => asmLine "GECFG" [numbered "M" ma, numbered "M" md, numbered "P" pr, numbered "P" pc, fl.text]
  | .geswpr xi xj => asmLine "GESWPR" [numbered "X" xi, numbered "X" xj]
  | .geswpc xi xj => asmLine "GESWPC" [numbered "X" xi, numbered "X" xj]
  | .gescl xr xb => asmLine "GESCL" [numbered "X" xr, numbered "X" xb]
  | .geaxpy xi xr xb => asmLine "GEAXPY" [numbered "X" xi, numbered "X" xr, numbered "X" xb]
  | .genorm xr xc => asmLine "GENORM" [numbered "X" xr, numbered "X" xc]
  | .geelim xr xc xlo xhi => asmLine "GEELIM" [numbered "X" xr, numbered "X" xc, numbered "X" xlo, numbered "X" xhi]
  | .gepivf xd xc xlo xhi => asmLine "GEPIVF" [numbered "X" xd, numbered "X" xc, numbered "X" xlo, numbered "X" xhi]
  | .gepivm xd xr0 xc0 xr1 xc1 => asmLine "GEPIVM" [numbered "X" xd, numbered "X" xr0, numbered "X" xc0, numbered "X" xr1, numbered "X" xc1]
  | .gerref xd => asmLine "GERREF" [numbered "X" xd]
  | .svinit xl xt => asmLine "SVINIT" [numbered "X" xl, numbered "X" xt]
  | .svaddr vr vs => asmLine "SVADDR" [numbered "V" vr, numbered "V" vs]
  | .svaddm ma md => asmLine "SVADDM" [numbered "M" ma, numbered "M" md]
  | .svrun => asmLine "SVRUN" []
  | .svres md => asmLine "SVRES" [numbered "M" md]
  | .svstat xd => asmLine "SVSTAT" [numbered "X" xd]
  | .svrows xd => asmLine "SVROWS" [numbered "X" xd]
  | .svabort => asmLine "SVABORT" []

/-- The pseudo-commands of R113. "`NEG` forms" expand to nothing, since negation is the identity in GF(256). -/
inductive Pseudo where
  | gsub (xd xa xb : XReg)
  | vsub (vd va vb : VSlot)
  | vsubs (vd va : VSlot) (xc : XReg)
  | msub (md ma mb : MSlot) (rep : ReprCode)
  | msubs (md ma : MSlot) (xc : XReg) (rep : ReprCode)
  | xclr (xd : XReg)
  | xli32 (xd : XReg) (imm : Word)
  | mident (md : MSlot) (xn : XReg)
  | mzeros (md : MSlot) (xr xc : XReg)
  | mnnzall (xd : XReg) (ms : MSlot) (xr xc : XReg)
  | mnnzrow (xd : XReg) (ms : MSlot) (xi xi1 xc : XReg)
  | mnnzcol (xd : XReg) (ms : MSlot) (xj xj1 xr : XReg)
  | mscale (md : MSlot) (xc xr xcc : XReg)
  | vnnzall (xd : XReg) (va : VSlot) (xn : XReg)
  | neg
  deriving DecidableEq, Repr

/-- R113's table. -/
def Pseudo.expand (c : Pseudo) : List Instr :=
  match c with
  | .gsub xd xa xb => [.gadd xd xa xb]
  | .vsub vd va vb => [.vadd vd va vb]
  | .vsubs vd va xc => [.vadds vd va xc]
  | .msub md ma mb rep => [.madd md ma mb rep]
  | .msubs md ma xc rep => [.madds md ma xc rep]
  | .xclr xd => [.xli xd 0]
  | .xli32 xd imm => [.xli xd (BitVec.ofNat 16 imm.toNat), .xlui xd (BitVec.ofNat 16 (imm.toNat / 2 ^ 16))]
  | .mident md xn => [.malloc md xn xn .denseRow .identity]
  | .mzeros md xr xc => [.malloc md xr xc .denseRow .zero]
  | .mnnzall xd ms xr xc => [.mnnz xd ms 0 0 xr xc]
  | .mnnzrow xd ms xi xi1 xc => [.mnnz xd ms xi 0 xi1 xc]
  | .mnnzcol xd ms xj xj1 xr => [.mnnz xd ms 0 xj xr xj1]
  | .mscale md xc xr xcc => [.mumul md xc 0 0 xr xcc]
  | .vnnzall xd va xn => [.vnnz xd va 0 xn]
  | .neg => []

/-- A text without the blanks at its ends. -/
def trimBlanks (l : List Char) : List Char := ((l.dropWhile Char.isWhitespace).reverse.dropWhile Char.isWhitespace).reverse

/-- The pieces of a text between the characters c. -/
def piecesAt (c : Char) (l : List Char) : List (List Char) :=
  l.foldr (fun x acc => if x = c then [] :: acc else (x :: acc.headD []) :: acc.tail) [[]]

/-- The value of one digit in a base of at most 16. -/
def digitIn (base : Nat) (c : Char) : Option Nat :=
  let v := if '0' ≤ c ∧ c ≤ '9' then c.toNat - 48 else if 'a' ≤ c ∧ c ≤ 'f' then c.toNat - 87
    else if 'A' ≤ c ∧ c ≤ 'F' then c.toNat - 55 else 16
  if v < base then some v else none

/-- A numeral in a base. -/
def numeralIn (base : Nat) (l : List Char) : Option Nat :=
  if l.isEmpty then none
  else l.foldl (fun acc c => acc.bind fun n => (digitIn base c).map fun d => n * base + d) (some 0)

/-- A number: decimal, or `0x` and hexadecimal (R112). -/
def numberOf (l : List Char) : Option Nat :=
  match l with
  | '0' :: 'x' :: rest => numeralIn 16 rest
  | _ => numeralIn 10 l

/-- A register or slot: its letter and a number 0..15 (R112). -/
def placeOf (letter : Char) (l : List Char) : Option (Fin 16) :=
  match l with
  | c :: rest =>
    if c = letter ∧ (rest.length = 1 ∨ rest.head? = some '1') then
      (numeralIn 10 rest).bind fun n => if h : n < 16 then some ⟨n, h⟩ else none
    else none
  | [] => none

/-- An unsigned immediate of w bits. -/
def immOf (w : Nat) (l : List Char) : Option (BitVec w) :=
  (numberOf l).bind fun n => if n < 2 ^ w then some (BitVec.ofNat w n) else none

/-- `simm16`: a number in -32768..32767 (R105, R112). -/
def simmOf (l : List Char) : Option (BitVec 16) :=
  match l with
  | '-' :: rest => (numberOf rest).bind fun n => if n ≤ 32768 then some (BitVec.ofInt 16 (-n)) else none
  | _ => (numberOf l).bind fun n => if n ≤ 32767 then some (BitVec.ofNat 16 n) else none

/-- A code, by its name or its number in the list (R112). -/
def codeOf {α : Type} (all : List α) (text : α → String) (l : List Char) : Option α :=
  match all.find? (fun a => text a == String.ofList l) with
  | some a => some a
  | none => (numberOf l).bind fun n => all[n]?

/-- `#repr`, which may be omitted: `INHERIT` (R112). -/
def reprIn (t : List (List Char)) : Option ReprCode :=
  match t with
  | [] => some .inherit
  | [a] => codeOf [.inherit, .denseRow, .denseCol, .sparse] ReprCode.text a
  | _ => none

/-- `#repr` and `#init` of `MALLOC`, each of which may be omitted (R112). DESIGN CHOICE (log 23): R112 does not say how the
omissions combine; here a single code is the `#repr`, so `#init` is given only beside a `#repr`. -/
def reprInitIn (t : List (List Char)) : Option (ReprCode × InitCode) :=
  match t with
  | [a, b] => (reprIn [a]).bind fun r => (codeOf [.zero, .identity] InitCode.text b).map fun i => (r, i)
  | _ => (reprIn t).map fun r => (r, .zero)

/-- `#pred` (R106). -/
def predOf (l : List Char) : Option PredCode :=
  codeOf [.zero, .nonzero, .one, .identity, .diagonal, .upperTriangular, .lowerTriangular, .symmetric] PredCode.text l

/-- `#flags`: a `|`-joined list of names, or a number whose bits 0, 1, 2 are the flags (R106, R112). -/
def flagsOf (l : List Char) : Option GeFlags :=
  match numberOf l with
  | some n => if n < 8 then some ⟨n.testBit 0, n.testBit 1, n.testBit 2⟩ else none
  | none =>
    let names := (piecesAt '|' l).map fun p => String.ofList (trimBlanks p)
    if names.all fun n => ["HASD", "HASPR", "HASPC"].contains n then
      some ⟨names.contains "HASD", names.contains "HASPR", names.contains "HASPC"⟩
    else none

/-- The commands a mnemonic and its operands are assembled to: itself (R112), or an expansion (R113). -/
def assembleCommand (mnemonic : String) (t : List (List Char)) : Option (List Instr) :=
  match mnemonic with
  | "NOP" => match t with | [] => do return [.nop] | _ => none
  | "SIGNAL" => match t with | [] => do return [.signal] | _ => none
  | "XLI" => match t with | [a, b] => do return [.xli (← placeOf 'X' a) (← immOf 16 b)] | _ => none
  | "XLUI" => match t with | [a, b] => do return [.xlui (← placeOf 'X' a) (← immOf 16 b)] | _ => none
  | "XADDI" => match t with
    | [a, b, c] =>
      do return [.xaddi (← placeOf 'X' a) (← placeOf 'X' b) (← simmOf c)]
    | _ => none
  | "XMOV" => match t with | [a, b] => do return [.xmov (← placeOf 'X' a) (← placeOf 'X' b)] | _ => none
  | "XADD" => match t with
    | [a, b, c] =>
      do return [.xadd (← placeOf 'X' a) (← placeOf 'X' b) (← placeOf 'X' c)]
    | _ => none
  | "XSUB" => match t with
    | [a, b, c] =>
      do return [.xsub (← placeOf 'X' a) (← placeOf 'X' b) (← placeOf 'X' c)]
    | _ => none
  | "GADD" => match t with
    | [a, b, c] =>
      do return [.gadd (← placeOf 'X' a) (← placeOf 'X' b) (← placeOf 'X' c)]
    | _ => none
  | "GMUL" => match t with
    | [a, b, c] =>
      do return [.gmul (← placeOf 'X' a) (← placeOf 'X' b) (← placeOf 'X' c)]
    | _ => none
  | "GDIV" => match t with
    | [a, b, c] =>
      do return [.gdiv (← placeOf 'X' a) (← placeOf 'X' b) (← placeOf 'X' c)]
    | _ => none
  | "GINV" => match t with | [a, b] => do return [.ginv (← placeOf 'X' a) (← placeOf 'X' b)] | _ => none
  | "GEXP" => match t with | [a, b] => do return [.gexp (← placeOf 'X' a) (← placeOf 'X' b)] | _ => none
  | "GLOG" => match t with | [a, b] => do return [.glog (← placeOf 'X' a) (← placeOf 'X' b)] | _ => none
  | "GPOW" => match t with
    | [a, b, c] =>
      do return [.gpow (← placeOf 'X' a) (← placeOf 'X' b) (← placeOf 'X' c)]
    | _ => none
  | "VALLOC" => match t with | [a, b] => do return [.valloc (← placeOf 'V' a) (← placeOf 'X' b)] | _ => none
  | "VFREE" => match t with | [a] => do return [.vfree (← placeOf 'V' a)] | _ => none
  | "VLEN" => match t with | [a, b] => do return [.vlen (← placeOf 'X' a) (← placeOf 'V' b)] | _ => none
  | "VGET" => match t with
    | [a, b, c] =>
      do return [.vget (← placeOf 'X' a) (← placeOf 'V' b) (← placeOf 'X' c)]
    | _ => none
  | "VSET" => match t with
    | [a, b, c] =>
      do return [.vset (← placeOf 'V' a) (← placeOf 'X' b) (← placeOf 'X' c)]
    | _ => none
  | "VCOPY" => match t with | [a, b] => do return [.vcopy (← placeOf 'V' a) (← placeOf 'V' b)] | _ => none
  | "VFILL" => match t with | [a, b] => do return [.vfill (← placeOf 'V' a) (← placeOf 'X' b)] | _ => none
  | "VADD" => match t with
    | [a, b, c] =>
      do return [.vadd (← placeOf 'V' a) (← placeOf 'V' b) (← placeOf 'V' c)]
    | _ => none
  | "VADDS" => match t with
    | [a, b, c] =>
      do return [.vadds (← placeOf 'V' a) (← placeOf 'V' b) (← placeOf 'X' c)]
    | _ => none
  | "VMULS" => match t with
    | [a, b, c] =>
      do return [.vmuls (← placeOf 'V' a) (← placeOf 'V' b) (← placeOf 'X' c)]
    | _ => none
  | "VDIVS" => match t with
    | [a, b, c] =>
      do return [.vdivs (← placeOf 'V' a) (← placeOf 'V' b) (← placeOf 'X' c)]
    | _ => none
  | "VHAD" => match t with
    | [a, b, c] =>
      do return [.vhad (← placeOf 'V' a) (← placeOf 'V' b) (← placeOf 'V' c)]
    | _ => none
  | "VAXPY" => match t with
    | [a, b, c] =>
      do return [.vaxpy (← placeOf 'V' a) (← placeOf 'V' b) (← placeOf 'X' c)]
    | _ => none
  | "VDOT" => match t with
    | [a, b, c] =>
      do return [.vdot (← placeOf 'X' a) (← placeOf 'V' b) (← placeOf 'V' c)]
    | _ => none
  | "VSWP" => match t with
    | [a, b, c] =>
      do return [.vswp (← placeOf 'V' a) (← placeOf 'X' b) (← placeOf 'X' c)]
    | _ => none
  | "VSLICE" => match t with
    | [a, b, c, d] =>
      do return [.vslice (← placeOf 'V' a) (← placeOf 'V' b) (← placeOf 'X' c) (← placeOf 'X' d)]
    | _ => none
  | "VNNZ" => match t with
    | [a, b, c, d] =>
      do return [.vnnz (← placeOf 'X' a) (← placeOf 'V' b) (← placeOf 'X' c) (← placeOf 'X' d)]
    | _ => none
  | "VSEL" => match t with
    | [a, b, c] =>
      do return [.vsel (← placeOf 'V' a) (← placeOf 'V' b) (← placeOf 'P' c)]
    | _ => none
  | "PALLOC" => match t with | [a, b] => do return [.palloc (← placeOf 'P' a) (← placeOf 'X' b)] | _ => none
  | "PFREE" => match t with | [a] => do return [.pfree (← placeOf 'P' a)] | _ => none
  | "PLEN" => match t with | [a, b] => do return [.plen (← placeOf 'X' a) (← placeOf 'P' b)] | _ => none
  | "PGET" => match t with
    | [a, b, c] =>
      do return [.pget (← placeOf 'X' a) (← placeOf 'P' b) (← placeOf 'X' c)]
    | _ => none
  | "PSET" => match t with
    | [a, b, c] =>
      do return [.pset (← placeOf 'P' a) (← placeOf 'X' b) (← placeOf 'X' c)]
    | _ => none
  | "PSWP" => match t with
    | [a, b, c] =>
      do return [.pswp (← placeOf 'P' a) (← placeOf 'X' b) (← placeOf 'X' c)]
    | _ => none
  | "PINV" => match t with | [a, b] => do return [.pinv (← placeOf 'P' a) (← placeOf 'P' b)] | _ => none
  | "PCOPY" => match t with | [a, b] => do return [.pcopy (← placeOf 'P' a) (← placeOf 'P' b)] | _ => none
  | "MALLOC" => match t with
    | a :: b :: c :: r =>
      do
        let p ← reprInitIn r
        return [.malloc (← placeOf 'M' a) (← placeOf 'X' b) (← placeOf 'X' c) p.1 p.2]
    | _ => none
  | "MFREE" => match t with | [a] => do return [.mfree (← placeOf 'M' a)] | _ => none
  | "MROWS" => match t with | [a, b] => do return [.mrows (← placeOf 'X' a) (← placeOf 'M' b)] | _ => none
  | "MCOLS" => match t with | [a, b] => do return [.mcols (← placeOf 'X' a) (← placeOf 'M' b)] | _ => none
  | "MREPR" => match t with | [a, b] => do return [.mrepr (← placeOf 'X' a) (← placeOf 'M' b)] | _ => none
  | "MGET" => match t with
    | [a, b, c, d] =>
      do return [.mget (← placeOf 'X' a) (← placeOf 'M' b) (← placeOf 'X' c) (← placeOf 'X' d)]
    | _ => none
  | "MSET" => match t with
    | [a, b, c, d] =>
      do return [.mset (← placeOf 'M' a) (← placeOf 'X' b) (← placeOf 'X' c) (← placeOf 'X' d)]
    | _ => none
  | "MGETR" => match t with
    | [a, b, c] =>
      do return [.mgetr (← placeOf 'V' a) (← placeOf 'M' b) (← placeOf 'X' c)]
    | _ => none
  | "MGETC" => match t with
    | [a, b, c] =>
      do return [.mgetc (← placeOf 'V' a) (← placeOf 'M' b) (← placeOf 'X' c)]
    | _ => none
  | "MSETR" => match t with
    | [a, b, c] =>
      do return [.msetr (← placeOf 'M' a) (← placeOf 'X' b) (← placeOf 'V' c)]
    | _ => none
  | "MSETC" => match t with
    | [a, b, c] =>
      do return [.msetc (← placeOf 'M' a) (← placeOf 'X' b) (← placeOf 'V' c)]
    | _ => none
  | "MCOPY" => match t with
    | a :: b :: r =>
      do return [.mcopy (← placeOf 'M' a) (← placeOf 'M' b) (← reprIn r)]
    | _ => none
  | "MSWPR" => match t with
    | [a, b, c] =>
      do return [.mswpr (← placeOf 'M' a) (← placeOf 'X' b) (← placeOf 'X' c)]
    | _ => none
  | "MSWPC" => match t with
    | [a, b, c] =>
      do return [.mswpc (← placeOf 'M' a) (← placeOf 'X' b) (← placeOf 'X' c)]
    | _ => none
  | "MTRN" => match t with
    | a :: b :: r =>
      do return [.mtrn (← placeOf 'M' a) (← placeOf 'M' b) (← reprIn r)]
    | _ => none
  | "MROT" => match t with
    | a :: b :: r =>
      do return [.mrot (← placeOf 'M' a) (← placeOf 'M' b) (← reprIn r)]
    | _ => none
  | "MSLICE" => match t with
    | [a, b, c, d, e, g] =>
      do return [.mslice (← placeOf 'M' a) (← placeOf 'M' b) (← placeOf 'X' c) (← placeOf 'X' d) (← placeOf 'X' e) (← placeOf 'X' g)]
    | _ => none
  | "MSLTL" => match t with
    | [a, b, c, d] =>
      do return [.msltl (← placeOf 'M' a) (← placeOf 'M' b) (← placeOf 'X' c) (← placeOf 'X' d)]
    | _ => none
  | "MSLBR" => match t with
    | [a, b, c, d] =>
      do return [.mslbr (← placeOf 'M' a) (← placeOf 'M' b) (← placeOf 'X' c) (← placeOf 'X' d)]
    | _ => none
  | "MSEL" => match t with
    | [a, b, c, d] =>
      do return [.msel (← placeOf 'M' a) (← placeOf 'M' b) (← placeOf 'P' c) (← placeOf 'P' d)]
    | _ => none
  | "MSELR" => match t with
    | [a, b, c] =>
      do return [.mselr (← placeOf 'M' a) (← placeOf 'M' b) (← placeOf 'P' c)]
    | _ => none
  | "MSELC" => match t with
    | [a, b, c] =>
      do return [.mselc (← placeOf 'M' a) (← placeOf 'M' b) (← placeOf 'P' c)]
    | _ => none
  | "MNNZ" => match t with
    | [a, b, c, d, e, g] =>
      do return [.mnnz (← placeOf 'X' a) (← placeOf 'M' b) (← placeOf 'X' c) (← placeOf 'X' d) (← placeOf 'X' e) (← placeOf 'X' g)]
    | _ => none
  | "MADD" => match t with
    | a :: b :: c :: r =>
      do return [.madd (← placeOf 'M' a) (← placeOf 'M' b) (← placeOf 'M' c) (← reprIn r)]
    | _ => none
  | "MADDS" => match t with
    | a :: b :: c :: r =>
      do return [.madds (← placeOf 'M' a) (← placeOf 'M' b) (← placeOf 'X' c) (← reprIn r)]
    | _ => none
  | "MMULS" => match t with
    | a :: b :: c :: r =>
      do return [.mmuls (← placeOf 'M' a) (← placeOf 'M' b) (← placeOf 'X' c) (← reprIn r)]
    | _ => none
  | "MDIVS" => match t with
    | a :: b :: c :: r =>
      do return [.mdivs (← placeOf 'M' a) (← placeOf 'M' b) (← placeOf 'X' c) (← reprIn r)]
    | _ => none
  | "MMUL" => match t with
    | a :: b :: c :: r =>
      do return [.mmul (← placeOf 'M' a) (← placeOf 'M' b) (← placeOf 'M' c) (← reprIn r)]
    | _ => none
  | "MHAD" => match t with
    | a :: b :: c :: r =>
      do return [.mhad (← placeOf 'M' a) (← placeOf 'M' b) (← placeOf 'M' c) (← reprIn r)]
    | _ => none
  | "MPOW" => match t with
    | a :: b :: c :: r =>
      do return [.mpow (← placeOf 'M' a) (← placeOf 'M' b) (← placeOf 'X' c) (← reprIn r)]
    | _ => none
  | "MMULV" => match t with
    | [a, b, c] =>
      do return [.mmulv (← placeOf 'V' a) (← placeOf 'M' b) (← placeOf 'V' c)]
    | _ => none
  | "VMULM" => match t with
    | [a, b, c] =>
      do return [.vmulm (← placeOf 'V' a) (← placeOf 'V' b) (← placeOf 'M' c)]
    | _ => none
  | "MUSET" => match t with
    | [a, b, c, d, e, g] =>
      do return [.muset (← placeOf 'M' a) (← placeOf 'X' b) (← placeOf 'X' c) (← placeOf 'X' d) (← placeOf 'X' e) (← placeOf 'X' g)]
    | _ => none
  | "MUXOR" => match t with
    | [a, b, c, d, e, g] =>
      do return [.muxor (← placeOf 'M' a) (← placeOf 'X' b) (← placeOf 'X' c) (← placeOf 'X' d) (← placeOf 'X' e) (← placeOf 'X' g)]
    | _ => none
  | "MUMUL" => match t with
    | [a, b, c, d, e, g] =>
      do return [.mumul (← placeOf 'M' a) (← placeOf 'X' b) (← placeOf 'X' c) (← placeOf 'X' d) (← placeOf 'X' e) (← placeOf 'X' g)]
    | _ => none
  | "MUSETNZ" => match t with
    | [a, b, c, d, e, g] =>
      do return [.musetnz (← placeOf 'M' a) (← placeOf 'X' b) (← placeOf 'X' c) (← placeOf 'X' d) (← placeOf 'X' e) (← placeOf 'X' g)]
    | _ => none
  | "MUXORNZ" => match t with
    | [a, b, c, d, e, g] =>
      do return [.muxornz (← placeOf 'M' a) (← placeOf 'X' b) (← placeOf 'X' c) (← placeOf 'X' d) (← placeOf 'X' e) (← placeOf 'X' g)]
    | _ => none
  | "MUMULNZ" => match t with
    | [a, b, c, d, e, g] =>
      do return [.mumulnz (← placeOf 'M' a) (← placeOf 'X' b) (← placeOf 'X' c) (← placeOf 'X' d) (← placeOf 'X' e) (← placeOf 'X' g)]
    | _ => none
  | "MFSUM" => match t with
    | [a, b, c, d, e, g] =>
      do return [.mfsum (← placeOf 'X' a) (← placeOf 'M' b) (← placeOf 'X' c) (← placeOf 'X' d) (← placeOf 'X' e) (← placeOf 'X' g)]
    | _ => none
  | "MFPROD" => match t with
    | [a, b, c, d, e, g] =>
      do return [.mfprod (← placeOf 'X' a) (← placeOf 'M' b) (← placeOf 'X' c) (← placeOf 'X' d) (← placeOf 'X' e) (← placeOf 'X' g)]
    | _ => none
  | "MIS" => match t with | [a, b, c] => do return [.mis (← placeOf 'X' a) (← placeOf 'M' b) (← predOf c)] | _ => none
  | "MNON" => match t with
    | [a, b, c] =>
      do return [.mnon (← placeOf 'X' a) (← placeOf 'M' b) (← predOf c)]
    | _ => none
  | "GECFG" => match t with
    | [a, b, c, d, e] =>
      do return [.gecfg (← placeOf 'M' a) (← placeOf 'M' b) (← placeOf 'P' c) (← placeOf 'P' d) (← flagsOf e)]
    | _ => none
  | "GESWPR" => match t with | [a, b] => do return [.geswpr (← placeOf 'X' a) (← placeOf 'X' b)] | _ => none
  | "GESWPC" => match t with | [a, b] => do return [.geswpc (← placeOf 'X' a) (← placeOf 'X' b)] | _ => none
  | "GESCL" => match t with | [a, b] => do return [.gescl (← placeOf 'X' a) (← placeOf 'X' b)] | _ => none
  | "GEAXPY" => match t with
    | [a, b, c] =>
      do return [.geaxpy (← placeOf 'X' a) (← placeOf 'X' b) (← placeOf 'X' c)]
    | _ => none
  | "GENORM" => match t with | [a, b] => do return [.genorm (← placeOf 'X' a) (← placeOf 'X' b)] | _ => none
  | "GEELIM" => match t with
    | [a, b, c, d] =>
      do return [.geelim (← placeOf 'X' a) (← placeOf 'X' b) (← placeOf 'X' c) (← placeOf 'X' d)]
    | _ => none
  | "GEPIVF" => match t with
    | [a, b, c, d] =>
      do return [.gepivf (← placeOf 'X' a) (← placeOf 'X' b) (← placeOf 'X' c) (← placeOf 'X' d)]
    | _ => none
  | "GEPIVM" => match t with
    | [a, b, c, d, e] =>
      do return [.gepivm (← placeOf 'X' a) (← placeOf 'X' b) (← placeOf 'X' c) (← placeOf 'X' d) (← placeOf 'X' e)]
    | _ => none
  | "GERREF" => match t with | [a] => do return [.gerref (← placeOf 'X' a)] | _ => none
  | "SVINIT" => match t with | [a, b] => do return [.svinit (← placeOf 'X' a) (← placeOf 'X' b)] | _ => none
  | "SVADDR" => match t with | [a, b] => do return [.svaddr (← placeOf 'V' a) (← placeOf 'V' b)] | _ => none
  | "SVADDM" => match t with | [a, b] => do return [.svaddm (← placeOf 'M' a) (← placeOf 'M' b)] | _ => none
  | "SVRUN" => match t with | [] => do return [.svrun] | _ => none
  | "SVRES" => match t with | [a] => do return [.svres (← placeOf 'M' a)] | _ => none
  | "SVSTAT" => match t with | [a] => do return [.svstat (← placeOf 'X' a)] | _ => none
  | "SVROWS" => match t with | [a] => do return [.svrows (← placeOf 'X' a)] | _ => none
  | "SVABORT" => match t with | [] => do return [.svabort] | _ => none
  | "GSUB" => match t with
    | [a, b, c] =>
      do return Pseudo.expand (.gsub (← placeOf 'X' a) (← placeOf 'X' b) (← placeOf 'X' c))
    | _ => none
  | "VSUB" => match t with
    | [a, b, c] =>
      do return Pseudo.expand (.vsub (← placeOf 'V' a) (← placeOf 'V' b) (← placeOf 'V' c))
    | _ => none
  | "VSUBS" => match t with
    | [a, b, c] =>
      do return Pseudo.expand (.vsubs (← placeOf 'V' a) (← placeOf 'V' b) (← placeOf 'X' c))
    | _ => none
  | "MSUB" => match t with
    | a :: b :: c :: r =>
      do return Pseudo.expand (.msub (← placeOf 'M' a) (← placeOf 'M' b) (← placeOf 'M' c) (← reprIn r))
    | _ => none
  | "MSUBS" => match t with
    | a :: b :: c :: r =>
      do return Pseudo.expand (.msubs (← placeOf 'M' a) (← placeOf 'M' b) (← placeOf 'X' c) (← reprIn r))
    | _ => none
  | "XCLR" => match t with | [a] => do return Pseudo.expand (.xclr (← placeOf 'X' a)) | _ => none
  | "MIDENT" => match t with
    | [a, b] =>
      do return Pseudo.expand (.mident (← placeOf 'M' a) (← placeOf 'X' b))
    | _ => none
  | "MZEROS" => match t with
    | [a, b, c] =>
      do return Pseudo.expand (.mzeros (← placeOf 'M' a) (← placeOf 'X' b) (← placeOf 'X' c))
    | _ => none
  | "MNNZALL" => match t with
    | [a, b, c, d] =>
      do return Pseudo.expand (.mnnzall (← placeOf 'X' a) (← placeOf 'M' b) (← placeOf 'X' c) (← placeOf 'X' d))
    | _ => none
  | "MNNZROW" => match t with
    | [a, b, c, d, e] =>
      do return Pseudo.expand (.mnnzrow (← placeOf 'X' a) (← placeOf 'M' b) (← placeOf 'X' c) (← placeOf 'X' d) (← placeOf 'X' e))
    | _ => none
  | "MNNZCOL" => match t with
    | [a, b, c, d, e] =>
      do return Pseudo.expand (.mnnzcol (← placeOf 'X' a) (← placeOf 'M' b) (← placeOf 'X' c) (← placeOf 'X' d) (← placeOf 'X' e))
    | _ => none
  | "MSCALE" => match t with
    | [a, b, c, d] =>
      do return Pseudo.expand (.mscale (← placeOf 'M' a) (← placeOf 'X' b) (← placeOf 'X' c) (← placeOf 'X' d))
    | _ => none
  | "VNNZALL" => match t with
    | [a, b, c] =>
      do return Pseudo.expand (.vnnzall (← placeOf 'X' a) (← placeOf 'V' b) (← placeOf 'X' c))
    | _ => none
  | "XLI32" => match t with | [a, b] => do return Pseudo.expand (.xli32 (← placeOf 'X' a) (← immOf 32 b)) | _ => none
  | _ => none

/-- One line of text (R112): a comment after `;` is dropped, an empty line is no command. -/
def assembleLine (line : String) : Option (List Instr) :=
  let l := trimBlanks (line.toList.takeWhile (· != ';'))
  if l.isEmpty then some []
  else
    let rest := trimBlanks (l.dropWhile fun c => !c.isWhitespace)
    assembleCommand (String.ofList (l.takeWhile fun c => !c.isWhitespace))
      (if rest.isEmpty then [] else (piecesAt ',' rest).map trimBlanks)

end Sys2Proof
end

