-- ==== Sys2Proof/Machine/Reference.lean ====
section
/-! DEFINITION. The solver's reference method (47_solver.md R344 to R349). The spec does not make it normative (R337),
and `SVRUN`'s meaning does not use it (log 6). What R349 leaves `OPEN` are arguments here, never State (log 22). -/

namespace Sys2Proof.Machine

/-- The working copy: a and d, the column-position list cp in `sys.pc`, and the counters i and u (R344). -/
structure Reduction where
  sys : Augmented
  i : Nat
  u : Nat
  deriving DecidableEq, Repr

/-- `SV_TIEBREAK` or `SV_COLPICK` (R349). DESIGN CHOICE (log 22): R349 leaves open what a choice may depend on; here it
sees the whole working copy (a, d, cp, i and u) beside the candidates. The rows as collected, and so the degrees before
any step, are the same for a whole run, and a rule that needs them is given as a function made for that row set. -/
abbrev ChoiceRule := Reduction → List Nat → Nat

/-- The candidate a rule picks. DESIGN CHOICE (log 22): a rule that names no candidate takes the first. -/
def chooseFrom (f : ChoiceRule) (w : Reduction) (cands : List Nat) : Nat :=
  let k := f w cands
  if cands.contains k then k else cands.headD 0

/-- The active columns [i, L-u) (R344). -/
def Reduction.active (w : Reduction) : List Nat :=
  (List.range (w.sys.a.cols - w.u - w.i)).map (w.i + ·)

/-- The non-zero active columns of row r; their count is its degree (R345 (1)). -/
def Reduction.nonzeros (w : Reduction) (r : Nat) : List Nat := w.active.filter fun c => w.sys.a.e r c != 0

/-- R345 (4), second half: row i's non-zero active columns other than column i go to the last active positions and
become inactive. DESIGN CHOICE (log 22): the columns are met from the right, so each swap brings a zero of row i back. -/
def Reduction.inactivate (w : Reduction) : Reduction :=
  ((w.nonzeros w.i).filter fun c => c != w.i).foldr
    (fun c (acc : Reduction) =>
      { acc with sys := acc.sys.swapCols c (acc.sys.a.cols - acc.u - 1), u := acc.u + 1 }) w

/-- One round of Phase 1 (R345 (1) to (6)); `none` when Phase 1 ends. -/
def Reduction.round (tiebreak colpick : ChoiceRule) (threshold : Option Nat) (w : Reduction) : Option Reduction :=
  let rows := (List.range (w.sys.a.rows - w.i)).map (w.i + ·)
  let degrees := (rows.map fun r => (w.nonzeros r).length).filter fun n => n != 0
  match degrees.min? with
  | none => none
  | some m =>
    if threshold.any fun limit => decide (limit < m) then none
    else
      let r := chooseFrom tiebreak w (rows.filter fun k => (w.nonzeros k).length == m)
      let w1 : Reduction := { w with sys := w.sys.swapRows r w.i }
      let c := chooseFrom colpick w1 (w1.nonzeros w1.i)
      let w2 := Reduction.inactivate { w1 with sys := w1.sys.swapCols c w1.i }
      let cleared := w2.sys.axpyRows w2.i fun k =>
        if w2.i < k then gfDivNz (w2.sys.a.e k w2.i) (w2.sys.a.e w2.i w2.i) else 0
      some { w2 with sys := cleared, i := w2.i + 1 }

/-- The end of Phase 1 (R345): "every column still active also becomes inactive (u ← L - i)". -/
def Reduction.endPhase1 (w : Reduction) : Reduction := { w with u := w.sys.a.cols - w.i }

/-- Phase 1 (R345), repeated while i + u < L; `fuel` = L rounds are enough, each adding 1 to i. -/
def phase1 (tiebreak colpick : ChoiceRule) (threshold : Option Nat) : Nat → Reduction → Reduction
  | 0, w => w.endPhase1
  | fuel + 1, w =>
    if w.i + w.u < w.sys.a.cols then
      match w.round tiebreak colpick threshold with
      | none => w.endPhase1
      | some w' => phase1 tiebreak colpick threshold fuel w'
    else w.endPhase1

/-- Phase 2 (R346): Gauss-Jordan on rows [i, N) and the u inactive columns [i, L); nothing when its rank is below
L - i. -/
def phase2 (w : Reduction) : Option Augmented :=
  let r := gaussJordan w.i ((List.range w.u).map (w.i + ·)) w.sys
  if r.2 = w.sys.a.cols then some r.1 else none

/-- Back substitution (R347): x[j] = d[j] for j ≥ i, then x[0], x[1], .., x[i-1] in turn. -/
def backSubstitute (i l t : Nat) (a d : ByteMatrix) : List (List Byte) :=
  (List.range i).foldl
    (fun x k => x.set k (newVector t fun q =>
      gfDivNz (gfAdd (d.e k q) (gfSum (((List.range l).filter fun j => j != k && a.e k j != 0).map fun j =>
        gfMul (a.e k j) (vecAt (x.getD j []) q)))) (a.e k k)))
    ((List.range l).map fun j => newVector t fun q => d.e j q)

/-- The whole method (R344 to R348): row cp[j] of the result is x[j]. -/
def referenceSolve (tiebreak colpick : ChoiceRule) (threshold : Option Nat) (l t : Nat)
    (rows : List (List Byte × List Byte)) : Option (List (List Byte)) :=
  let start : Augmented := { collectedSystem l t rows with pc := some (newIndex l fun k => countWord k) }
  let w := phase1 tiebreak colpick threshold l { sys := start, i := 0, u := 0 }
  match phase2 w with
  | none => none
  | some r =>
    let x := backSubstitute w.i l t r.a (r.d.getD (symbolMatrix t rows))
    let cp := r.pc.getD []
    some ((List.range l).map fun k => x.getD (positionOf cp k) [])

end Sys2Proof.Machine
end

