-- ==== Sys2Proof/Tests/Slice0.lean ====
section
/-! SUPPORT. Tests. Every word and every expected value is the spec's (the examples of the rules and 95_test_vectors.md,
whose table and row a name ends in); none is the model's own answer. A test runs one step on a small state. -/

namespace Sys2Proof.Tests

open Sys2Proof.Machine

set_option Elab.async false

/-- The state after one step that runs the word w. -/
def ran (s : State) (w : Nat) : State :=
  match step (s.withFetchWord 32 w) with
  | .next t => t
  | _ => s

/-- The start state of table 2.1. -/
def control : State :=
  State.reset |> (State.setX · 1 5) |> (State.setX · 2 4) |> (State.setX · 3 0xFFFFFFFF)

/-- The start state of table 2.2. -/
def field : State :=
  State.reset |> (State.setX · 1 0x53) |> (State.setX · 2 0xCA) |> (State.setX · 4 1) |> (State.setX · 5 0xFF)
    |> (State.setX · 6 255) |> (State.setX · 7 8) |> (State.setX · 8 0xFFFFFFFF) |> (State.setX · 9 0x153)
    |> (State.setX · 10 2) |> (State.setX · 11 0x8E)

/-- The start state of table 2.3. -/
def vectors : State :=
  State.reset |> (State.setV · 1 (some [1, 2, 3, 4])) |> (State.setV · 2 (some [5, 6, 7, 8]))
    |> (State.setV · 3 (some [])) |> (State.setV · 4 (some [0, 0x53, 0, 0xCA])) |> (State.setV · 5 (some [9, 9]))
    |> (State.setP · 1 (some [3, 0, 0])) |> (State.setP · 2 (some [4])) |> (State.setX · 1 4) |> (State.setX · 2 2)
    |> (State.setX · 3 0x53) |> (State.setX · 4 1) |> (State.setX · 5 3) |> (State.setX · 7 0xFFFFFFFF)
    |> (State.setX · 8 65)

/-- The start state of table 2.4. -/
def lists : State :=
  State.reset |> (State.setP · 1 (some [2, 0, 1])) |> (State.setP · 2 (some [1, 1, 0]))
    |> (State.setP · 3 (some [])) |> (State.setX · 1 3) |> (State.setX · 2 1) |> (State.setX · 3 7)
    |> (State.setX · 5 5) |> (State.setX · 8 65)

/-- The start state of table 2.5. -/
def store : State :=
  State.reset |> (State.setM · 1 (some ⟨2, 3, .denseRow, [[1, 2, 3], [4, 5, 6]]⟩))
    |> (State.setM · 2 (some ⟨3, 2, .sparse, [[0, 7], [8, 0], [0, 9]]⟩))
    |> (State.setM · 3 (some ⟨0, 2, .denseCol, []⟩)) |> (State.setV · 1 (some [10, 11, 12]))
    |> (State.setV · 2 (some [13, 14])) |> (State.setP · 1 (some [1, 0])) |> (State.setP · 2 (some [2, 2, 0]))
    |> (State.setP · 3 (some [5])) |> (State.setX · 1 1) |> (State.setX · 2 2) |> (State.setX · 3 3)
    |> (State.setX · 4 0x5A) |> (State.setX · 5 64) |> (State.setX · 6 65)

/-- The start state of table 2.6. -/
def arith : State :=
  State.reset |> (State.setM · 1 (some ⟨2, 2, .denseRow, [[1, 2], [3, 4]]⟩))
    |> (State.setM · 2 (some ⟨2, 2, .sparse, [[5, 6], [7, 8]]⟩))
    |> (State.setM · 4 (some ⟨2, 3, .denseRow, [[1, 2, 3], [4, 5, 6]]⟩))
    |> (State.setM · 5 (some ⟨2, 3, .denseRow, [[0, 2, 0], [4, 0, 6]]⟩))
    |> (State.setM · 6 (some ⟨0, 0, .denseRow, []⟩)) |> (State.setM · 7 (some ⟨2, 2, .denseRow, [[1, 0], [0, 1]]⟩))
    |> (State.setM · 8 (some ⟨2, 2, .denseRow, [[1, 3], [3, 0]]⟩)) |> (State.setV · 1 (some [1, 2]))
    |> (State.setV · 2 (some [1, 2, 3])) |> (State.setX · 1 1) |> (State.setX · 2 2) |> (State.setX · 3 3)
    |> (State.setX · 4 0x53) |> (State.setX · 7 0xFFFFFFFF)

/-- The start state of table 2.7. -/
def gauss : State :=
  State.reset |> (State.setM · 1 (some ⟨3, 3, .denseRow, [[0, 2, 1], [1, 1, 0], [3, 0, 1]]⟩))
    |> (State.setM · 2 (some ⟨3, 1, .denseRow, [[11], [3], [8]]⟩))
    |> (State.setM · 3 (some ⟨2, 1, .denseRow, [[1], [2]]⟩)) |> (State.setP · 1 (some [0, 1, 2]))
    |> (State.setP · 2 (some [0, 1, 2])) |> (State.setP · 3 (some [0, 1])) |> (State.setX · 1 1)
    |> (State.setX · 2 2) |> (State.setX · 3 3) |> (State.setX · 4 0x53) |> (State.setX · 5 4)

/-- The start state of table 2.8. -/
def solver : State :=
  State.reset |> (State.setX · 1 3) |> (State.setX · 2 2) |> (State.setX · 7 65) |> (State.setX · 8 1)
    |> (State.setV · 1 (some [0, 2, 1])) |> (State.setV · 2 (some [0x0b, 0x3b])) |> (State.setV · 3 (some [1]))
    |> (State.setV · 4 (some [5])) |> (State.setV · 5 (some [6]))
    |> (State.setM · 1 (some ⟨4, 3, .denseRow, [[0, 2, 1], [1, 1, 0], [3, 0, 1], [1, 3, 1]]⟩))
    |> (State.setM · 2 (some ⟨4, 2, .denseRow, [[0x0b, 0x3b], [3, 3], [8, 0x28], [8, 0x38]]⟩))
    |> (State.setM · 3 (some ⟨3, 3, .denseRow, [[1, 1, 0], [2, 2, 0], [0, 0, 1]]⟩))
    |> (State.setM · 4 (some ⟨3, 2, .denseRow, [[1, 2], [2, 4], [3, 3]]⟩))
    |> (State.setM · 5 (some ⟨64, 3, .denseRow, (List.replicate 64 [0, 0, 0])⟩))
    |> (State.setM · 6 (some ⟨64, 2, .denseRow, (List.replicate 64 [0, 0])⟩))
    |> (State.setM · 7 (some ⟨0, 3, .denseRow, []⟩)) |> (State.setM · 8 (some ⟨0, 2, .denseRow, []⟩))

/-- Table 2.7 after its `GECFG` of row 1. -/
def gaussSet : State := { gauss with ge := ⟨true, 1, true, 2, true, 1, true, 2⟩ }

/-- Table 2.8 after `SVINIT X1, X2`. -/
def collecting : State := { solver with sv := ⟨.collecting, 3, 2, [], []⟩ }

/-- The four rows of `M1` and `M2` of table 2.8. -/
def fourRows : List (List Byte × List Byte) :=
  [([0, 2, 1], [0x0B, 0x3B]), ([1, 1, 0], [3, 3]), ([3, 0, 1], [8, 0x28]), ([1, 3, 1], [8, 0x38])]

/-- Table 2.8 after `SVINIT X1, X2` and `SVADDM M1, M2`. -/
def collected : State := { solver with sv := ⟨.collecting, 3, 2, fourRows, []⟩ }

/-- Table 2.8 after a successful `SVRUN`. -/
def solved : State := { solver with sv := ⟨.solved, 3, 2, fourRows, [[5, 0x15], [6, 0x16], [7, 0x17]]⟩ }

/-! Decoding: for every constructor a word of 95_test_vectors.md beside the command text it stands for there. -/

theorem test_decode_control :
    decode 0x00000000 = .ok .nop ∧
    decode 0x01000000 = .ok .signal ∧
    decode 0x0840BEEF = .ok (.xli 4 0xbeef) ∧
    decode 0x09101234 = .ok (.xlui 1 0x1234) ∧
    decode 0x0A117FFF = .ok (.xaddi 1 1 0x7fff) ∧
    decode 0x0B500000 = .ok (.xmov 5 0) ∧
    decode 0x0C431000 = .ok (.xadd 4 3 1) ∧
    decode 0x0D421000 = .ok (.xsub 4 2 1) := by
  decide +kernel

theorem test_decode_field :
    decode 0x10C12000 = .ok (.gadd 12 1 2) ∧
    decode 0x11C12000 = .ok (.gmul 12 1 2) ∧
    decode 0x12C12000 = .ok (.gdiv 12 1 2) ∧
    decode 0x13C10000 = .ok (.ginv 12 1) ∧
    decode 0x14C70000 = .ok (.gexp 12 7) ∧
    decode 0x15C10000 = .ok (.glog 12 1) ∧
    decode 0x16C17000 = .ok (.gpow 12 1 7) := by
  decide +kernel

theorem test_decode_vector_1 :
    decode 0x20610000 = .ok (.valloc 6 1) ∧
    decode 0x21200000 = .ok (.vfree 2) ∧
    decode 0x22630000 = .ok (.vlen 6 3) ∧
    decode 0x23612000 = .ok (.vget 6 1 2) ∧
    decode 0x24173000 = .ok (.vset 1 7 3) ∧
    decode 0x25610000 = .ok (.vcopy 6 1) ∧
    decode 0x26130000 = .ok (.vfill 1 3) ∧
    decode 0x27395000 = .ok (.vadd 3 9 5) := by
  decide +kernel

theorem test_decode_vector_2 :
    decode 0x28613000 = .ok (.vadds 6 1 3) ∧
    decode 0x29113000 = .ok (.vmuls 1 1 3) ∧
    decode 0x2A613000 = .ok (.vdivs 6 1 3) ∧
    decode 0x2B612000 = .ok (.vhad 6 1 2) ∧
    decode 0x2C213000 = .ok (.vaxpy 2 1 3) ∧
    decode 0x2D612000 = .ok (.vdot 6 1 2) ∧
    decode 0x2E145000 = .ok (.vswp 1 4 5) ∧
    decode 0x2F614500 = .ok (.vslice 6 1 4 5) := by
  decide +kernel

theorem test_decode_vector_3 :
    decode 0x30640100 = .ok (.vnnz 6 4 0 1) ∧
    decode 0x31611000 = .ok (.vsel 6 1 1) := by
  decide +kernel

theorem test_decode_index :
    decode 0x38410000 = .ok (.palloc 4 1) ∧
    decode 0x39100000 = .ok (.pfree 1) ∧
    decode 0x3A630000 = .ok (.plen 6 3) ∧
    decode 0x3B611000 = .ok (.pget 6 1 1) ∧
    decode 0x3C123000 = .ok (.pset 1 2 3) ∧
    decode 0x3D102000 = .ok (.pswp 1 0 2) ∧
    decode 0x3E410000 = .ok (.pinv 4 1) ∧
    decode 0x3F410000 = .ok (.pcopy 4 1) := by
  decide +kernel

theorem test_decode_store_1 :
    decode 0x40432031 = .ok (.malloc 4 3 2 .sparse .identity) ∧
    decode 0x41100000 = .ok (.mfree 1) ∧
    decode 0x42710000 = .ok (.mrows 7 1) ∧
    decode 0x43730000 = .ok (.mcols 7 3) ∧
    decode 0x44720000 = .ok (.mrepr 7 2) ∧
    decode 0x45416600 = .ok (.mget 4 1 6 6) ∧
    decode 0x46102400 = .ok (.mset 1 0 2 4) ∧
    decode 0x47311000 = .ok (.mgetr 3 1 1) := by
  decide +kernel

theorem test_decode_store_2 :
    decode 0x48321000 = .ok (.mgetc 3 2 1) ∧
    decode 0x49101000 = .ok (.msetr 1 0 1) ∧
    decode 0x4A122000 = .ok (.msetc 1 2 2) ∧
    decode 0x4B420020 = .ok (.mcopy 4 2 .denseCol) ∧
    decode 0x4C101000 = .ok (.mswpr 1 0 1) ∧
    decode 0x4D102000 = .ok (.mswpc 1 0 2) ∧
    decode 0x4E410000 = .ok (.mtrn 4 1 .inherit) ∧
    decode 0x4F410000 = .ok (.mrot 4 1 .inherit) := by
  decide +kernel

theorem test_decode_store_3 :
    decode 0x50411111 = .ok (.mslice 4 1 1 1 1 1) ∧
    decode 0x51411200 = .ok (.msltl 4 1 1 2) ∧
    decode 0x52411100 = .ok (.mslbr 4 1 1 1) ∧
    decode 0x53411200 = .ok (.msel 4 1 1 2) ∧
    decode 0x54411000 = .ok (.mselr 4 1 1) ∧
    decode 0x55413000 = .ok (.mselc 4 1 3) ∧
    decode 0x56711023 = .ok (.mnnz 7 1 1 0 2 3) := by
  decide +kernel

theorem test_decode_arith_1 :
    decode 0x60312000 = .ok (.madd 3 1 2 .inherit) ∧
    decode 0x61324000 = .ok (.madds 3 2 4 .inherit) ∧
    decode 0x62314020 = .ok (.mmuls 3 1 4 .denseCol) ∧
    decode 0x63314000 = .ok (.mdivs 3 1 4 .inherit) ∧
    decode 0x64312000 = .ok (.mmul 3 1 2 .inherit) ∧
    decode 0x65345000 = .ok (.mhad 3 4 5 .inherit) ∧
    decode 0x66312000 = .ok (.mpow 3 1 2 .inherit) ∧
    decode 0x67311000 = .ok (.mmulv 3 1 1) := by
  decide +kernel

theorem test_decode_arith_2 :
    decode 0x68314000 = .ok (.vmulm 3 1 4) ∧
    decode 0x69441111 = .ok (.muset 4 4 1 1 1 1) ∧
    decode 0x6A440013 = .ok (.muxor 4 4 0 0 1 3) ∧
    decode 0x6B420023 = .ok (.mumul 4 2 0 0 2 3) ∧
    decode 0x6C540023 = .ok (.musetnz 5 4 0 0 2 3) ∧
    decode 0x6D510023 = .ok (.muxornz 5 1 0 0 2 3) ∧
    decode 0x6E500023 = .ok (.mumulnz 5 0 0 0 2 3) ∧
    decode 0x6F540023 = .ok (.mfsum 5 4 0 0 2 3) := by
  decide +kernel

theorem test_decode_arith_3 :
    decode 0x70540013 = .ok (.mfprod 5 4 0 0 1 3) ∧
    decode 0x71570001 = .ok (.mis 5 7 .nonzero) ∧
    decode 0x72580007 = .ok (.mnon 5 8 .symmetric) := by
  decide +kernel

theorem test_decode_gauss_1 :
    decode 0x80121270 = .ok (.gecfg 1 2 1 2 ⟨true, true, true⟩) ∧
    decode 0x81660000 = .ok (.geswpr 6 6) ∧
    decode 0x82020000 = .ok (.geswpc 0 2) ∧
    decode 0x83340000 = .ok (.gescl 3 4) ∧
    decode 0x84213000 = .ok (.geaxpy 2 1 3) ∧
    decode 0x85010000 = .ok (.genorm 0 1) ∧
    decode 0x86102300 = .ok (.geelim 1 0 2 3) ∧
    decode 0x87603300 = .ok (.gepivf 6 0 3 3) := by
  decide +kernel

theorem test_decode_gauss_2 :
    decode 0x88612330 = .ok (.gepivm 6 1 2 3 3) ∧
    decode 0x89600000 = .ok (.gerref 6) := by
  decide +kernel

theorem test_decode_solver :
    decode 0x90120000 = .ok (.svinit 1 2) ∧
    decode 0x91120000 = .ok (.svaddr 1 2) ∧
    decode 0x92120000 = .ok (.svaddm 1 2) ∧
    decode 0x93000000 = .ok .svrun ∧
    decode 0x94900000 = .ok (.svres 9) ∧
    decode 0x95500000 = .ok (.svstat 5) ∧
    decode 0x96600000 = .ok (.svrows 6) ∧
    decode 0x97000000 = .ok .svabort := by
  decide +kernel

/-! Results, one for each instruction. -/

theorem test_signal_2_1_2 : (ran control 0x01000000).status.signal = true := by decide +kernel

theorem test_xli_2_1_3 : (ran control 0x0840BEEF).getX 4 = 0xBEEF := by decide +kernel

theorem test_xlui_2_1_5 : (ran control 0x09101234).getX 1 = 0x12340005 := by decide +kernel

theorem test_xaddi_2_1_7 : (ran control 0x0A40FFFF).getX 4 = 0xFFFFFFFF := by decide +kernel

theorem test_xadd_2_1_10 : (ran control 0x0C431000).getX 4 = 0x04 := by decide +kernel

theorem test_xsub_2_1_12 : (ran control 0x0D421000).getX 4 = 0xFFFFFFFF := by decide +kernel

theorem test_gadd_2_2_1 : (ran field 0x10C12000).getX 12 = 0x99 := by decide +kernel

theorem test_gmul_2_2_4 : (ran field 0x11C12000).getX 12 = 0x8F := by decide +kernel

theorem test_gdiv_2_2_8 : (ran field 0x12C12000).getX 12 = 0x6D := by decide +kernel

theorem test_ginv_2_2_12 : (ran field 0x13C10000).getX 12 = 0x8C := by decide +kernel

theorem test_gexp_2_2_15 : (ran field 0x14C70000).getX 12 = 0x1D := by decide +kernel

theorem test_glog_2_2_20 : (ran field 0x15C10000).getX 12 = 0xCE := by decide +kernel

theorem test_gpow_2_2_24 : (ran field 0x16C17000).getX 12 = 0xC7 := by decide +kernel

theorem test_valloc_2_3_1 : (ran vectors 0x20610000).getV 6 = some [0x00, 0x00, 0x00, 0x00] := by decide +kernel

theorem test_vfree_2_3_4 : (ran vectors 0x21200000).getV 2 = none := by decide +kernel

theorem test_vget_2_3_7 : (ran vectors 0x23612000).getX 6 = 0x03 := by decide +kernel

theorem test_vset_2_3_9 : (ran vectors 0x24103000).getV 1 = some [0x53, 0x02, 0x03, 0x04] := by decide +kernel

theorem test_vcopy_2_3_11 : (ran vectors 0x25610000).getV 6 = some [0x01, 0x02, 0x03, 0x04] := by decide +kernel

theorem test_vfill_2_3_12 : (ran vectors 0x26130000).getV 1 = some [0x53, 0x53, 0x53, 0x53] := by decide +kernel

theorem test_vadd_2_3_14 : (ran vectors 0x27612000).getV 6 = some [0x04, 0x04, 0x04, 0x0C] := by decide +kernel

theorem test_vadds_2_3_18 : (ran vectors 0x28613000).getV 6 = some [0x52, 0x51, 0x50, 0x57] := by decide +kernel

theorem test_vmuls_2_3_19 : (ran vectors 0x29113000).getV 1 = some [0x53, 0xA6, 0xF5, 0x51] := by decide +kernel

theorem test_vdivs_2_3_21 : (ran vectors 0x2A613000).getV 6 = some [0x8C, 0x05, 0x89, 0x0A] := by decide +kernel

theorem test_vhad_2_3_23 : (ran vectors 0x2B612000).getV 6 = some [0x05, 0x0C, 0x09, 0x20] := by decide +kernel

theorem test_vaxpy_2_3_25 : (ran vectors 0x2C213000).getV 2 = some [0x56, 0xA0, 0xF2, 0x59] := by decide +kernel

theorem test_vdot_2_3_28 : (ran vectors 0x2D612000).getX 6 = 0x20 := by decide +kernel

theorem test_vswp_2_3_30 : (ran vectors 0x2E145000).getV 1 = some [0x01, 0x04, 0x03, 0x02] := by decide +kernel

theorem test_vslice_2_3_33 : (ran vectors 0x2F614500).getV 6 = some [0x02, 0x03] := by decide +kernel

theorem test_vnnz_2_3_37 : (ran vectors 0x30640100).getX 6 = 0x02 := by decide +kernel

theorem test_vsel_2_3_39 : (ran vectors 0x31611000).getV 6 = some [0x04, 0x01, 0x01] := by decide +kernel

theorem test_palloc_2_4_1 : (ran lists 0x38410000).getP 4 = some [0, 1, 2] := by decide +kernel

theorem test_pfree_2_4_4 : (ran lists 0x39100000).getP 1 = none := by decide +kernel

theorem test_pget_2_4_7 : (ran lists 0x3B610000).getX 6 = 0x02 := by decide +kernel

theorem test_pset_2_4_9 : (ran lists 0x3C123000).getP 1 = some [2, 7, 1] := by decide +kernel

theorem test_pswp_2_4_10 : (ran lists 0x3D102000).getP 1 = some [0, 2, 1] := by decide +kernel

theorem test_pinv_2_4_11 : (ran lists 0x3E410000).getP 4 = some [1, 2, 0] := by decide +kernel

theorem test_pcopy_2_4_14 : (ran lists 0x3F410000).getP 4 = some [2, 0, 1] := by decide +kernel

theorem test_malloc_2_5_1 :
    (ran store 0x40423000).getM 4 = some ⟨2, 3, .denseRow, [[0x00, 0x00, 0x00], [0x00, 0x00, 0x00]]⟩ := by
  decide +kernel

theorem test_mfree_2_5_7 : (ran store 0x41100000).getM 1 = none := by decide +kernel

theorem test_mrows_2_5_9 : (ran store 0x42710000).getX 7 = 0x02 := by decide +kernel

theorem test_mcols_2_5_10 : (ran store 0x43730000).getX 7 = 0x02 := by decide +kernel

theorem test_mrepr_2_5_11 : (ran store 0x44720000).getX 7 = 0x03 := by decide +kernel

theorem test_mget_2_5_12 : (ran store 0x45711200).getX 7 = 0x06 := by decide +kernel

theorem test_mset_2_5_15 :
    (ran store 0x46102400).getM 1 = some ⟨2, 3, .denseRow, [[0x01, 0x02, 0x5A], [0x04, 0x05, 0x06]]⟩ := by
  decide +kernel

theorem test_mgetr_2_5_18 : (ran store 0x47311000).getV 3 = some [0x04, 0x05, 0x06] := by decide +kernel

theorem test_mgetc_2_5_19 : (ran store 0x48321000).getV 3 = some [0x07, 0x00, 0x09] := by decide +kernel

theorem test_msetr_2_5_21 :
    (ran store 0x49101000).getM 1 = some ⟨2, 3, .denseRow, [[0x0A, 0x0B, 0x0C], [0x04, 0x05, 0x06]]⟩ := by
  decide +kernel

theorem test_msetc_2_5_23 :
    (ran store 0x4A122000).getM 1 = some ⟨2, 3, .denseRow, [[0x01, 0x02, 0x0D], [0x04, 0x05, 0x0E]]⟩ := by
  decide +kernel

theorem test_mcopy_2_5_24 :
    (ran store 0x4B420000).getM 4 = some ⟨3, 2, .sparse, [[0x00, 0x07], [0x08, 0x00], [0x00, 0x09]]⟩ := by
  decide +kernel

theorem test_mswpr_2_5_26 :
    (ran store 0x4C101000).getM 1 = some ⟨2, 3, .denseRow, [[0x04, 0x05, 0x06], [0x01, 0x02, 0x03]]⟩ := by
  decide +kernel

theorem test_mswpc_2_5_27 :
    (ran store 0x4D102000).getM 1 = some ⟨2, 3, .denseRow, [[0x03, 0x02, 0x01], [0x06, 0x05, 0x04]]⟩ := by
  decide +kernel

theorem test_mtrn_2_5_29 :
    (ran store 0x4E410000).getM 4 = some ⟨3, 2, .denseRow, [[0x01, 0x04], [0x02, 0x05], [0x03, 0x06]]⟩ := by
  decide +kernel

theorem test_mrot_2_5_31 :
    (ran store 0x4F410000).getM 4 = some ⟨3, 2, .denseRow, [[0x04, 0x01], [0x05, 0x02], [0x06, 0x03]]⟩ := by
  decide +kernel

theorem test_mslice_2_5_33 :
    (ran store 0x50410123).getM 4 = some ⟨2, 2, .denseRow, [[0x02, 0x03], [0x05, 0x06]]⟩ := by
  decide +kernel

theorem test_msltl_2_5_36 :
    (ran store 0x51411200).getM 4 = some ⟨1, 2, .denseRow, [[0x01, 0x02]]⟩ := by
  decide +kernel

theorem test_mslbr_2_5_37 :
    (ran store 0x52411100).getM 4 = some ⟨1, 2, .denseRow, [[0x05, 0x06]]⟩ := by
  decide +kernel

theorem test_msel_2_5_38 :
    (ran store 0x53411200).getM 4 = some ⟨2, 3, .denseRow, [[0x06, 0x06, 0x04], [0x03, 0x03, 0x01]]⟩ := by
  decide +kernel

theorem test_mselr_2_5_40 :
    (ran store 0x54422000).getM 4 = some ⟨3, 2, .sparse, [[0x00, 0x09], [0x00, 0x09], [0x00, 0x07]]⟩ := by
  decide +kernel

theorem test_mnnz_2_5_42 : (ran store 0x56720032).getX 7 = 0x03 := by decide +kernel

theorem test_madd_2_6_1 :
    (ran arith 0x60312000).getM 3 = some ⟨2, 2, .denseRow, [[0x04, 0x04], [0x04, 0x0C]]⟩ := by
  decide +kernel

theorem test_madds_2_6_4 :
    (ran arith 0x61324000).getM 3 = some ⟨2, 2, .sparse, [[0x56, 0x55], [0x54, 0x5B]]⟩ := by
  decide +kernel

theorem test_mmuls_2_6_5 :
    (ran arith 0x62314020).getM 3 = some ⟨2, 2, .denseCol, [[0x53, 0xA6], [0xF5, 0x51]]⟩ := by
  decide +kernel

theorem test_mdivs_2_6_6 :
    (ran arith 0x63314000).getM 3 = some ⟨2, 2, .denseRow, [[0x8C, 0x05], [0x89, 0x0A]]⟩ := by
  decide +kernel

theorem test_mmul_2_6_8 :
    (ran arith 0x64312000).getM 3 = some ⟨2, 2, .denseRow, [[0x0B, 0x16], [0x13, 0x2A]]⟩ := by
  decide +kernel

theorem test_mhad_2_6_11 :
    (ran arith 0x65345000).getM 3 = some ⟨2, 3, .denseRow, [[0x00, 0x04, 0x00], [0x10, 0x00, 0x14]]⟩ := by
  decide +kernel

theorem test_mpow_2_6_12 :
    (ran arith 0x66312000).getM 3 = some ⟨2, 2, .denseRow, [[0x07, 0x0A], [0x0F, 0x16]]⟩ := by
  decide +kernel

theorem test_mmulv_2_6_16 : (ran arith 0x67311000).getV 3 = some [0x05, 0x0B] := by decide +kernel

theorem test_vmulm_2_6_18 : (ran arith 0x68314000).getV 3 = some [0x09, 0x08, 0x0F] := by decide +kernel

theorem test_muset_2_6_19 :
    (ran arith 0x69440123).getM 4 = some ⟨2, 3, .denseRow, [[0x01, 0x53, 0x53], [0x04, 0x53, 0x53]]⟩ := by
  decide +kernel

theorem test_muxor_2_6_20 :
    (ran arith 0x6A440013).getM 4 = some ⟨2, 3, .denseRow, [[0x52, 0x51, 0x50], [0x04, 0x05, 0x06]]⟩ := by
  decide +kernel

theorem test_mumul_2_6_21 :
    (ran arith 0x6B420023).getM 4 = some ⟨2, 3, .denseRow, [[0x02, 0x04, 0x06], [0x08, 0x0A, 0x0C]]⟩ := by
  decide +kernel

theorem test_musetnz_2_6_22 :
    (ran arith 0x6C540023).getM 5 = some ⟨2, 3, .denseRow, [[0x00, 0x53, 0x00], [0x53, 0x00, 0x53]]⟩ := by
  decide +kernel

theorem test_muxornz_2_6_23 :
    (ran arith 0x6D510023).getM 5 = some ⟨2, 3, .denseRow, [[0x00, 0x03, 0x00], [0x05, 0x00, 0x07]]⟩ := by
  decide +kernel

theorem test_mumulnz_2_6_24 :
    (ran arith 0x6E500023).getM 5 = some ⟨2, 3, .denseRow, [[0x00, 0x00, 0x00], [0x00, 0x00, 0x00]]⟩ := by
  decide +kernel

theorem test_mfsum_2_6_27 : (ran arith 0x6F540023).getX 5 = 0x07 := by decide +kernel

theorem test_mfprod_2_6_29 : (ran arith 0x70540013).getX 5 = 0x06 := by decide +kernel

theorem test_mis_2_6_35 : (ran arith 0x71570003).getX 5 = 0x01 := by decide +kernel

theorem test_mnon_2_6_43 : (ran arith 0x72550000).getX 5 = 0x01 := by decide +kernel

theorem test_gecfg_2_7_1 : (ran gauss 0x80121270).ge = ⟨true, 1, true, 2, true, 1, true, 2⟩ := by decide +kernel

theorem test_geswpr_2_7_11 :
    (ran gaussSet 0x81010000).getM 1 = some ⟨3, 3, .denseRow, [[0x01, 0x01, 0x00], [0x00, 0x02, 0x01], [0x03, 0x00, 0x01]]⟩ ∧
    (ran gaussSet 0x81010000).getM 2 = some ⟨3, 1, .denseRow, [[0x03], [0x0B], [0x08]]⟩ ∧
    (ran gaussSet 0x81010000).getP 1 = some [1, 0, 2] := by
  decide +kernel

theorem test_geswpc_2_7_16 :
    (ran gaussSet 0x82020000).getM 1 = some ⟨3, 3, .denseRow, [[0x01, 0x02, 0x00], [0x00, 0x01, 0x01], [0x01, 0x00, 0x03]]⟩ ∧
    (ran gaussSet 0x82020000).getP 2 = some [2, 1, 0] := by
  decide +kernel

theorem test_gescl_2_7_18 :
    (ran gaussSet 0x83040000).getM 1 = some ⟨3, 3, .denseRow, [[0x00, 0xA6, 0x53], [0x01, 0x01, 0x00], [0x03, 0x00, 0x01]]⟩ ∧
    (ran gaussSet 0x83040000).getM 2 = some ⟨3, 1, .denseRow, [[0x57], [0x03], [0x08]]⟩ := by
  decide +kernel

theorem test_geaxpy_2_7_21 :
    (ran gaussSet 0x84213000).getM 1 = some ⟨3, 3, .denseRow, [[0x00, 0x02, 0x01], [0x01, 0x01, 0x00], [0x00, 0x03, 0x01]]⟩ ∧
    (ran gaussSet 0x84213000).getM 2 = some ⟨3, 1, .denseRow, [[0x0B], [0x03], [0x0D]]⟩ := by
  decide +kernel

theorem test_genorm_2_7_24 :
    (ran gaussSet 0x85010000).getM 1 = some ⟨3, 3, .denseRow, [[0x00, 0x01, 0x8E], [0x01, 0x01, 0x00], [0x03, 0x00, 0x01]]⟩ ∧
    (ran gaussSet 0x85010000).getM 2 = some ⟨3, 1, .denseRow, [[0x8B], [0x03], [0x08]]⟩ := by
  decide +kernel

theorem test_geelim_2_7_27 :
    (ran gaussSet 0x86100300).getM 1 = some ⟨3, 3, .denseRow, [[0x00, 0x02, 0x01], [0x01, 0x01, 0x00], [0x00, 0x03, 0x01]]⟩ ∧
    (ran gaussSet 0x86100300).getM 2 = some ⟨3, 1, .denseRow, [[0x0B], [0x03], [0x0D]]⟩ := by
  decide +kernel

theorem test_gepivf_2_7_33 : (ran gaussSet 0x87600300).getX 6 = 0x01 := by decide +kernel

theorem test_gepivm_2_7_38 : (ran gaussSet 0x88600310).getX 6 = 0x01 := by decide +kernel

theorem test_gerref_2_7_42 :
    (ran gaussSet 0x89600000).getX 6 = 0x03 ∧
    (ran gaussSet 0x89600000).getM 1 = some ⟨3, 3, .denseRow, [[0x01, 0x00, 0x00], [0x00, 0x01, 0x00], [0x00, 0x00, 0x01]]⟩ ∧
    (ran gaussSet 0x89600000).getM 2 = some ⟨3, 1, .denseRow, [[0x05], [0x06], [0x07]]⟩ ∧
    (ran gaussSet 0x89600000).getP 1 = some [1, 0, 2] := by
  decide +kernel

theorem test_svinit_2_8_1 :
    (ran solver 0x90120000).sv.state = .collecting ∧
    (ran solver 0x90120000).sv.n = 0 := by
  decide +kernel

theorem test_svaddr_2_8_5 :
    (ran collecting 0x91120000).sv.state = .collecting ∧
    (ran collecting 0x91120000).sv.n = 1 := by
  decide +kernel

theorem test_svaddm_2_8_8 :
    (ran collecting 0x92120000).sv.state = .collecting ∧
    (ran collecting 0x92120000).sv.n = 4 := by
  decide +kernel

theorem test_svrun_2_8_11 :
    (ran collected 0x93000000).sv.state = .solved ∧
    (ran collected 0x93000000).sv.n = 4 ∧
    (ran collected 0x93000000).sv.sol = [[0x05, 0x15], [0x06, 0x16], [0x07, 0x17]] := by
  decide +kernel

theorem test_svres_2_8_15 :
    (ran solved 0x94900000).getM 9 = some ⟨3, 2, .denseRow, [[0x05, 0x15], [0x06, 0x16], [0x07, 0x17]]⟩ := by
  decide +kernel

theorem test_svstat_2_8_17 : (ran solved 0x95500000).getX 5 = 0x05 := by decide +kernel

theorem test_svabort_2_8_26 :
    (ran solved 0x97000000).sv.state = .idle ∧
    (ran solved 0x97000000).sv.n = 0 := by
  decide +kernel
theorem test_nop_2_1_1 : (ran control 0x00000000).cmdcnt = 1 ∧ (ran control 0x00000000).x = control.x := by
  decide +kernel

theorem test_xmov_4_copy_of_xli : (ran control 0x0B510000).getX 5 = 5 ∧ (ran control 0x0B010000).getX 0 = 0 := by
  decide +kernel

theorem test_vlen_2_3_start : (ran vectors 0x22610000).getX 6 = 4 := by
  decide +kernel

theorem test_plen_2_4_start : (ran lists 0x3A610000).getX 6 = 3 := by
  decide +kernel

/-- R246 on `M1` of table 2.5 with the columns of `P2` = [2, 2, 0]. -/
theorem test_mselc_r246 :
    (ran store 0x55412000).getM 4 = some ⟨2, 3, .denseRow, [[3, 3, 1], [6, 6, 4]]⟩ := by
  decide +kernel

theorem test_svrows_2_8_19 : (ran (ran collecting 0x91120000) 0x96600000).getX 6 = 1 := by
  decide +kernel

/-! Faults: one row of 95_test_vectors.md for each cause, and the check order of its table 2.9. -/

theorem test_fault_2_2_14 :
    (ran field 0x13C00000).cause = some .divisionByZero ∧ (ran field 0x13C00000).status.fault = true ∧
    (ran field 0x13C00000).faultCmd = 0x13C00000 ∧ (ran field 0x13C00000).cmdcnt = 0 ∧
    (ran field 0x13C00000).queue = [] ∧ (ran field 0x13C00000).x = field.x := by
  decide +kernel

theorem test_fault_2_2_23 : (ran field 0x15C00000).cause = some .illegalArgument := by decide +kernel

theorem test_fault_2_3_22 : (ran vectors 0x2A630000).cause = some .divisionByZero := by decide +kernel

theorem test_fault_2_3_36 : (ran vectors 0x2F615200).cause = some .indexOutOfRange := by decide +kernel

theorem test_fault_2_4_12 : (ran lists 0x3E420000).cause = some .illegalArgument := by decide +kernel

theorem test_fault_2_5_22 : (ran store 0x49102000).cause = some .dimensionMismatch := by decide +kernel

theorem test_fault_2_6_7 : (ran arith 0x63360000).cause = some .divisionByZero := by decide +kernel

theorem test_fault_2_7_8 : (ran gauss 0x80110010).cause = some .illegalArgument := by decide +kernel

theorem test_fault_2_7_32 : (ran gaussSet 0x86000500).cause = some .indexOutOfRange := by decide +kernel

theorem test_fault_2_8_3 : (ran solver 0x90170000).cause = some .unsupportedBlockSize := by decide +kernel

theorem test_fault_2_8_12 :
    (ran (ran collecting 0x92340000) 0x93000000).cause = some .insufficientSymbols ∧
    (ran (ran collecting 0x92340000) 0x93000000).sv.state = .failed ∧
    (ran (ran collecting 0x92340000) 0x93000000).sv.n = 3 := by
  decide +kernel

/-- The start state of table 2.9 (rows 1 to 3 and 5 to 10; row 4 has an instance of its own). -/
def ordered : State :=
  State.reset |> (State.setV · 1 (some [1, 2, 3, 4])) |> (State.setV · 5 (some [9, 9]))
    |> (State.setM · 1 (some ⟨2, 3, .denseRow, [[1, 2, 3], [4, 5, 6]]⟩)) |> (State.setX · 1 1) |> (State.setX · 2 2)
    |> (State.setX · 3 3) |> (State.setX · 6 65)

theorem test_order_2_9 :
    (ran ordered 0x27395000).cause = some .unallocatedSlot ∧ (ran ordered 0x2A690000).cause = some .unallocatedSlot ∧
    (ran ordered 0x21901000).cause = some .illegalCommand ∧ (ran ordered 0x91990000).cause = some .illegalState ∧
    (ran ordered 0x81660000).cause = some .illegalState ∧ (ran ordered 0x40461040).cause = some .illegalCommand ∧
    (ran ordered 0x23496000).cause = some .unallocatedSlot ∧ (ran ordered 0x45416600).cause = some .indexOutOfRange ∧
    (ran ordered 0x90000000).cause = some .unsupportedBlockSize := by
  decide +kernel

theorem test_order_2_9_4 :
    (ran { ordered.setP 1 (some (List.replicate 64 0 ++ [99])) with
      params := { Config.resetParams with pMaxLen := 128 } } 0x54411000).cause = some .indexOutOfRange := by
  decide +kernel

theorem test_illegal_words :
    decode 0x00000001 = .error .reservedField ∧ decode 0x0B120001 = .error .reservedField ∧
    decode 0x02000000 = .error .unassignedOpcode ∧ decode 0x40411002 = .error .illegalCode ∧
    decode 0x71570008 = .error .illegalCode ∧ decode 0x801212F0 = .error .illegalCode ∧
    decode 0x80120000 = .error .flagField ∧ decode 0x93000001 = .error .reservedField := by
  decide +kernel

/-! Well-formedness: a term for each part that `GECFG`'s flags may leave out, refused, and one accepted (R304). -/

theorem test_ill_formed_d : (Instr.gecfg 1 2 0 0 ⟨false, true, true⟩).wellFormed = false := by decide

theorem test_ill_formed_pr : (Instr.gecfg 1 0 1 0 ⟨true, false, true⟩).wellFormed = false := by decide

theorem test_ill_formed_pc : (Instr.gecfg 1 0 0 2 ⟨true, true, false⟩).wellFormed = false := by decide

theorem test_well_formed : (Instr.gecfg 1 2 1 2 ⟨true, true, true⟩).wellFormed = true := by decide

/-! Host accesses, from Part 3 of 95_test_vectors.md. -/

/-- The start state of Part 3. -/
def window : State :=
  State.reset |> (State.setM · 1 (some ⟨2, 3, .denseRow, [[1, 2, 3], [4, 5, 6]]⟩))
    |> (State.setV · 1 (some [0x0A, 0x0B, 0x0C, 0x0D, 0x0E])) |> (State.setP · 1 (some [7, 0xFFFFFFFF]))
    |> (State.setX · 3 0x12345678)

/-- The state with `DWSEL` and `DWADDR` set as the host sets them. -/
def aimed (sel addr : Word) : State := writeWindow 0x084 addr (writeWindow 0x080 sel window)

theorem test_window_6_to_8 :
    (readWindow 0x088 false (aimed 0x11 0)).1 = 0x0D0C0B0A ∧ (readWindow 0x088 false (aimed 0x11 0)).2.dwaddr = 4 ∧
    (readWindow 0x088 false (aimed 0x11 4)).1 = 0x0000000E ∧
    (readWindow 0x088 false (aimed 0x11 8)).2.status.accerr = true := by
  decide +kernel

theorem test_window_11_to_13 :
    (readWindow 0x088 false (aimed 0x10 2)).1 = 0x06050403 ∧
    (writeWindow 0x088 0xAABBCCDD (aimed 0x10 4)).getM 1 = some ⟨2, 3, .denseRow, [[1, 2, 3], [4, 0xDD, 0xCC]]⟩ ∧
    (readWindow 0x088 false (aimed 0x12 1)).1 = 0xFFFFFFFF := by
  decide +kernel

theorem test_window_14_to_18 :
    (readWindow 0x08C false (aimed 0x13 2)).1 = 0 ∧ (readWindow 0x088 false (aimed 0x91 2)).2.status.accerr = true ∧
    (readWindow 0x080 false (aimed 0xFFFFFFFF 0)).1 = 0xF3 ∧ (readWindow 0x04C false window).1 = 0x12345678 ∧
    (readWindow 0x040 false (writeWindow 0x040 5 window)).1 = 0 := by
  decide +kernel

/-- R405(a): a `DWSIZE` write is ignored, with `ACCERR` while busy. -/
theorem test_dwsize_write :
    (writeWindow 0x08C 5 { window with queue := [0] }).status.accerr = true ∧ writeWindow 0x08C 5 window = window := by
  decide +kernel

theorem test_window_22_to_25 :
    (ran (writeWindow 0x008 2 window) 0x13200000).irq = true ∧
    (writeWindow 0x020 0 (ran window 0x13200000)).status.overrun = true ∧
    (writeWindow 0x00C 0x12 (ran window 0x13200000)).status.fault = false ∧
    (writeWindow 0x00C 0x12 (ran window 0x13200000)).cause = some .divisionByZero ∧
    (writeWindow 0x020 0 (writeWindow 0x00C 0x12 (ran window 0x13200000))).queue = [0] := by
  decide +kernel

/-- Part 5: on a row set of full rank the reference method and `SVRUN` give the same X. -/
theorem test_reference_method :
    referenceSolve (fun _ c => c.headD 0) (fun _ c => c.headD 0) none 3 2 fourRows =
      some [[5, 0x15], [6, 0x16], [7, 0x17]] ∧
    referenceSolve (fun w c => (c.filter fun k => w.i < k).headD 0) (fun _ c => c.getLastD 0) (some 1) 3 2 fourRows =
      some [[5, 0x15], [6, 0x16], [7, 0x17]] := by
  decide +kernel

/-- R345: when Phase 1 ends with no pivot found, all L columns are inactive. -/
theorem test_phase1_end :
    (phase1 (fun _ c => c.headD 0) (fun _ c => c.headD 0) (some 0) 3 ⟨collectedSystem 3 2 fourRows, 0, 0⟩).i = 0 ∧
    (phase1 (fun _ c => c.headD 0) (fun _ c => c.headD 0) (some 0) 3 ⟨collectedSystem 3 2 fourRows, 0, 0⟩).u = 3 := by
  decide +kernel

/-- R112, R113, on the spec's own command texts. -/
theorem test_command_text :
    (Instr.gecfg 1 2 1 2 ⟨true, true, true⟩).text = "GECFG M1, M2, P1, P2, HASD|HASPR|HASPC" ∧
    assembleLine "GECFG M1, M2, P1, P2, HASD|HASPR|HASPC" = some [.gecfg 1 2 1 2 ⟨true, true, true⟩] ∧
    assembleLine "XADDI X4, X0, -1 ; a comment" = some [.xaddi 4 0 0xFFFF] ∧
    assembleLine "MPOW M3, M1, X2" = some [.mpow 3 1 2 .inherit] ∧ assembleLine "MIS X5, M7, #pred 8" = none := by
  decide +kernel

theorem test_pseudo_commands :
    assembleLine "XLI32 X1, 0x12345678" = some [.xli 1 0x5678, .xlui 1 0x1234] ∧
    Pseudo.expand (.mident 4 2) = [.malloc 4 2 2 .denseRow .identity] := by
  decide +kernel

/-! Witnesses: for each obligation with hypotheses, states and operands that meet them, clause by clause, at a boundary
where there is one. -/

/-- Table 2.1 with two commands queued: the core is busy. -/
def busy : State := { control with queue := [0x0C431000, 0x00000000] }

/-- The busy state with these events to come. -/
def asked (events : List HostEvent) : State := { busy with agenda := events }

/-- The state after i, from s. -/
def after (i : Instr) (s : State) : State :=
  match exec i s with
  | .next t => t
  | _ => s

/-- Whether an outcome is a next state. -/
def isNext (o : Host.Outcome State Fault Refusal) : Bool :=
  match o with
  | .next _ => true
  | _ => false

theorem exec_after {i : Instr} {s : State} (h : isNext (exec i s) = true) : exec i s = .next (after i s) := by
  unfold after
  cases e : exec i s with
  | next t => rfl
  | fault r => simp [e, isNext] at h
  | refused r => simp [e, isNext] at h

theorem below {p : List Word} {n : Nat} (h : entriesBelow p n = true) : ∀ w ∈ p, w.toNat < n := by
  simpa [entriesBelow] using h

theorem exists_next {o : Host.Outcome State Fault Refusal} (h : isNext o = true) : ∃ t, o = .next t := by
  cases o with
  | next t => exact ⟨t, rfl⟩
  | fault r => simp [isNext] at h
  | refused r => simp [isNext] at h

/-- Table 2.7 with a context of A alone. -/
def gaussAlone : State := { gauss with ge := ⟨true, 1, false, 0, false, 0, false, 0⟩ }

/-- `M1` of table 2.7. -/
def gaussA : ByteMatrix := ⟨3, 3, .denseRow, [[0, 2, 1], [1, 1, 0], [3, 0, 1]]⟩

/-- `M2` of table 2.7. -/
def gaussD : ByteMatrix := ⟨3, 1, .denseRow, [[11], [3], [8]]⟩

theorem witness_ResetReachesResetValues :
    (asked [.hardReset]).agenda = [.hardReset] ∧ (0x80000007 : Word).getLsbD 31 = true ∧
    (asked [.access (.write 0x008 4 0x80000007) true]).agenda = [.access (.write 0x008 4 0x80000007) true] ∧
    1 ≤ (asked []).params.qDepth := by decide +kernel

theorem witness_RegisterWords :
    (15 : XReg) ≠ 0 ∧ (0 : XReg) ≠ 15 ∧ control.queue = [] ∧ busy.queue ≠ [] := by decide +kernel

theorem witness_StepRunsTheDecodedCommand :
    busy.queue = 0x0C431000 :: [0x00000000] ∧ decode 0x0C431000 = .ok (.xadd 4 3 1) ∧ busy.agenda = [] ∧
    (asked [.core]).agenda = .core :: [] ∧
    (asked [.together (.write 0x00C 4 4)]).agenda = .together (.write 0x00C 4 4) :: [] ∧
    (hostAccess (.write 0x00C 4 4) true (asked [])).queue = 0x0C431000 :: [0x00000000] ∧
    (asked [.access (.read 0x01C 4) true]).agenda = .access (.read 0x01C 4) true :: [] ∧
    decode 0x02000000 = .error .unassignedOpcode ∧ control.queue = [] ∧ control.agenda = [] := by decide +kernel

theorem witness_EveryWordIsOneCommandOrIllegal :
    ({ control with queue := [0x02000000] } : State).queue = 0x02000000 :: [] := by
  decide +kernel

theorem witness_DecodeEncode : (Instr.gecfg 1 2 0 0 ⟨true, false, false⟩).wellFormed = true := by decide

theorem inv_solved : Inv { solved with queue := [0x93000000] } where
  params := by decide +kernel
  hardwired := by decide +kernel
  objects := by decide +kernel
  context := by decide +kernel
  solver := by decide +kernel
  solution := by decide +kernel
  queue := by decide +kernel
  faulted := by decide +kernel
  record := by decide +kernel

theorem witness_InvKeptByEveryStep : ∃ s : State, Inv s ∧ s.queue ≠ [] ∧ ∃ t, step s = .next t :=
  ⟨_, inv_solved, by decide +kernel, exists_next (by decide +kernel)⟩

theorem witness_QueueAlwaysDrains : busy.agenda = [] ∧ busy.queue.length = 2 := by decide +kernel

theorem witness_CausesAsTabled :
    (Instr.ginv 12 0).wellFormed = true ∧ Faults (.ginv 12 0) .divisionByZero field ∧
    FaultEntry .divisionByZero field (takeFault .divisionByZero field) :=
  have e : after (.ginv 12 0) field = takeFault .divisionByZero field := by decide +kernel
  ⟨by decide, ⟨_, exec_after (by decide +kernel), e ▸ faultEntry_takeFault _ _⟩, faultEntry_takeFault _ _⟩

theorem witness_TagsChangeNothing :
    (∀ d k, Instr.mcopy 4 2 .inherit ≠ .mrepr d k) ∧
    store ≠ store.setM 2 (some ⟨3, 2, .denseCol, [[0, 7], [8, 0], [0, 9]]⟩) ∧
    store.untagged = (store.setM 2 (some ⟨3, 2, .denseCol, [[0, 7], [8, 0], [0, 9]]⟩)).untagged ∧
    (∃ t, exec (.mcopy 4 2 .inherit) store = .next t) ∧
    ∃ t, exec (.mcopy 4 2 .inherit) (store.setM 2 (some ⟨3, 2, .denseCol, [[0, 7], [8, 0], [0, 9]]⟩)) = .next t :=
  ⟨(fun _ _ h => Instr.noConfusion h), by decide +kernel, by decide +kernel, exists_next (by decide +kernel),
    exists_next (by decide +kernel)⟩

/-- The two stores, with the data window on the matrix whose tag differs. -/
theorem witness_TagsChangeNothing_access :
    writeWindow 0x080 0x20 store ≠ writeWindow 0x080 0x20 (store.setM 2 (some ⟨3, 2, .denseCol, [[0, 7], [8, 0], [0, 9]]⟩)) ∧
    (writeWindow 0x080 0x20 store).untagged =
      (writeWindow 0x080 0x20 (store.setM 2 (some ⟨3, 2, .denseCol, [[0, 7], [8, 0], [0, 9]]⟩))).untagged := by
  decide +kernel

theorem witness_PushAppendsOrOverruns :
    (takeFault .illegalCommand busy).status.fault = true ∧
    ({ busy with queue := List.replicate 16 0 } : State).queue.length = busy.params.qDepth ∧
    busy.status.fault = false ∧ ({ busy with queue := List.replicate 15 0 } : State).queue.length < busy.params.qDepth := by
  decide +kernel

theorem witness_BusErrorsAndReservedOffsets :
    (2 ≠ 4 ∨ (0x004 : BitVec 12).toNat % 4 ≠ 0) ∧ (4 ≠ 4 ∨ (0x006 : BitVec 12).toNat % 4 ≠ 0) ∧
    ((0x03C : BitVec 12).toNat % 4 = 0 ∧ (0x03C : BitVec 12).toNat = 0x03C) ∧
    ((0x090 : BitVec 12).toNat % 4 = 0 ∧ 0x090 ≤ (0x090 : BitVec 12).toNat) := by
  decide +kernel

theorem witness_StatusIsWriteOneToClear :
    (asked [.together (.write 0x00C 4 0x3E)]).agenda = .together (.write 0x00C 4 0x3E) :: [] ∧
    ({ busy with queue := [0x00000000] } : State).queue = [0x00000000] ∧
    ({ busy with queue := [0x01000000] } : State).queue = [0x01000000] ∧
    ({ busy with queue := [0x13100000] } : State).queue = [0x13100000] ∧ 1 ≤ 5 ∧ 6 ≤ 31 := by
  decide +kernel

/-- What the core executes from, when a write of w to `STATUS` falls together with the end of the one queued word c. -/
def meeting (c w : Word) : State := hostAccess (.write 0x00C 4 w) true { busy with queue := [c] }

theorem witness_StatusIsWriteOneToClear_meeting :
    ((meeting 0x01000000 0x3E).queue = 0x01000000 :: [] ∧ decode 0x02000000 = .error .unassignedOpcode ∧
      decode 0x13100000 = .ok (.ginv 1 0) ∧ decode 0x01000000 = .ok .signal) ∧
    Faults (.ginv 1 0) .divisionByZero (meeting 0x13100000 0x3E) ∧
    Completes .signal (writesOf (meeting 0x01000000 0x3E) .signal) (fun _ => True) (meeting 0x01000000 0x3E) := by
  have e : after (.ginv 1 0) (meeting 0x13100000 0x3E) = takeFault .divisionByZero (meeting 0x13100000 0x3E) := by
    decide +kernel
  refine ⟨by decide +kernel, ⟨_, exec_after (by decide +kernel), e ▸ faultEntry_takeFault _ _⟩, _, rfl, ?_, ?_, trivial⟩
  · exact ⟨rfl, rfl, rfl⟩
  · constructor <;> intros <;> first | rfl | contradiction

theorem witness_CtrlHoldsThreeEnables :
    (0x7FFFFFFF : Word).getLsbD 31 = false ∧ (0x80000000 : Word).getLsbD 31 = true := by decide

theorem witness_DataWindowLockedWhileBusy : busy.queue ≠ [] := by decide +kernel

/-- Each kind, at the last offset that is inside the object; a matrix, a vector and an index list. -/
theorem witness_DataWindowReads :
    (aimed 0x10 5).queue = [] ∧ (aimed 0x10 5).dwsel.kind = 0 ∧
    (aimed 0x10 5).getM (aimed 0x10 5).dwsel.slot = some ⟨2, 3, .denseRow, [[1, 2, 3], [4, 5, 6]]⟩ ∧
    2 * 3 < 2 ^ 32 ∧ (aimed 0x10 5).dwaddr.toNat < 2 * 3 ∧
    (aimed 0x11 4).queue = [] ∧ (aimed 0x11 4).dwsel.kind = 1 ∧
    (aimed 0x11 4).getV (aimed 0x11 4).dwsel.slot = some [0x0A, 0x0B, 0x0C, 0x0D, 0x0E] ∧
    (aimed 0x11 4).dwaddr.toNat < 5 ∧
    (aimed 0x12 1).queue = [] ∧ (aimed 0x12 1).dwsel.kind = 2 ∧
    (aimed 0x12 1).getP (aimed 0x12 1).dwsel.slot = some [7, 0xFFFFFFFF] ∧ (aimed 0x12 1).dwaddr.toNat < 2 := by
  decide +kernel

/-- The writes' hypotheses are the reads', and another slot exists. -/
theorem witness_DataWindowWrites : (0 : Fin 16) ≠ (aimed 0x10 5).dwsel.slot ∧ (aimed 0x10 5).dwaddr.toNat < 6 ∧
    (aimed 0x10 5).queue = [] := by
  decide +kernel

/-- Each kind, an `Unallocated` slot, and `DWADDR` equal to the size. -/
theorem witness_DataWindowRefusals :
    (aimed 0x10 6).queue = [] ∧ (aimed 0x10 6).dwsel.kind = 0 ∧ (BitVec.ofNat 32 6).toNat ≤ (aimed 0x10 6).dwaddr.toNat ∧
    (aimed 0x11 5).dwsel.kind = 1 ∧ (BitVec.ofNat 32 5).toNat ≤ (aimed 0x11 5).dwaddr.toNat ∧
    (aimed 0x92 0).dwsel.kind = 2 ∧ (aimed 0x92 0).getP (aimed 0x92 0).dwsel.slot = none ∧
    (aimed 0x13 0).dwsel.kind = 3 := by
  decide +kernel

theorem witness_SolverRegistersRead :
    ({ collected with queue := [0x93000000] } : State).queue.head? = some (encode .svrun) ∧
    busy.queue.head? ≠ some (encode .svrun) := by
  decide +kernel

theorem witness_RecordAndCountersReadOnly :
    Obligations.InvHoldsAtReset → Inv State.reset ∧ State.reset.cause = none ∧ State.reset.queue = [] ∧ 0x08C ≠ 0x088 :=
  fun h => ⟨h, rfl, rfl, by decide⟩

theorem witness_RomHoldsPowersAndLogs :
    253 < 254 ∧ (255 ≤ 509 ∧ 509 < 510) ∧ 254 < 255 ∧ expRom 254 = expRom 254 ∧ (0x8E : Byte) ≠ 0 := by decide +kernel

theorem witness_FieldLaws : (0xFF : Byte) ≠ 0 ∧ gfDiv 1 0xFF = .ok 0xFD ∧ 0xFFFFFFFE + 1 < 2 ^ 32 := by decide +kernel

theorem witness_FieldFunctions : (0x02 : Byte) ≠ 0 ∧ gfInv 0x02 = .ok 0x8E := by decide +kernel

theorem witness_GfCommandsCompleteOrFault :
    (field.getX 5).setWidth 8 ≠ 0#8 ∧ (field.getX 0).setWidth 8 = 0#8 := by decide +kernel

theorem witness_VectorAccessCompletes :
    vectors.index 1 ≤ vectors.params.vMaxLen ∧ vectors.getV 1 = some [1, 2, 3, 4] ∧
    ([1, 2, 3, 4] : List Byte)[vectors.index 5]? = some 4 ∧ vectors.index 5 < 4 ∧
    ([1, 2, 3, 4] : List Byte)[vectors.index 0]? = some 1 := by
  decide +kernel

theorem witness_VectorArithmeticCompletes :
    vectors.getV 1 = some [1, 2, 3, 4] ∧ vectors.getV 2 = some [5, 6, 7, 8] ∧
    ([1, 2, 3, 4] : List Byte).length = ([5, 6, 7, 8] : List Byte).length ∧ vectors.element 3 ≠ 0 := by
  decide +kernel

theorem witness_VectorSelectionCompletes :
    (vectors.getV 1 = some [1, 2, 3, 4] ∧ vectors.index 0 ≤ vectors.index 1 ∧ vectors.index 1 ≤ 4 ∧
    vectors.getP 1 = some [3, 0, 0] ∧ 3 ≤ vectors.params.vMaxLen) ∧ ∀ w ∈ ([3, 0, 0] : List Word), w.toNat < 4 :=
  ⟨by decide +kernel, below (by decide +kernel)⟩

theorem witness_VectorFaultsInOrder :
    (vectors.params.vMaxLen < vectors.index 8 ∧ vectors.getV 9 = none ∧ vectors.getP 9 = none ∧
    vectors.getV 1 = some [1, 2, 3, 4] ∧ vectors.getV 5 = some [9, 9] ∧ 4 ≠ 2 ∧ 4 ≤ vectors.index 1 ∧
    ¬ (vectors.index 5 ≤ vectors.index 2 ∧ vectors.index 2 ≤ 4) ∧ vectors.element 0 = 0 ∧
    vectors.getP 2 = some [4] ∧ vectors.params.vMaxLen < 65 ∧
    (vectors.setP 3 (some (List.replicate 65 0))).getP 3 = some (List.replicate 65 0)) ∧
    (∃ w ∈ ([4] : List Word), 4 ≤ w.toNat) ∧ ∀ w ∈ List.replicate 65 (0 : Word), w.toNat < 4 :=
  ⟨by decide +kernel, ⟨4, by simp, by decide⟩, below (by decide +kernel)⟩

theorem witness_IndexCommandsCompleteOrFault :
    lists.index 1 ≤ lists.params.pMaxLen ∧ lists.getP 1 = some [2, 0, 1] ∧
    ([2, 0, 1] : List Word)[lists.index 2]? = some 0 ∧ lists.index 2 < 3 ∧
    ([2, 0, 1] : List Word)[lists.index 0]? = some 2 ∧
    (([2, 0, 1] : List Word).map BitVec.toNat).Perm (List.range 3) ∧ lists.params.pMaxLen < lists.index 8 ∧
    lists.getP 9 = none ∧ 3 ≤ lists.index 1 ∧ lists.getP 2 = some [1, 1, 0] ∧
    ¬ (([1, 1, 0] : List Word).map BitVec.toNat).Perm (List.range 3) := by
  decide +kernel

theorem witness_MatrixAllocationAndReadsComplete :
    store.index 5 ≤ store.params.mMaxDim ∧ store.getM 1 = some ⟨2, 3, .denseRow, [[1, 2, 3], [4, 5, 6]]⟩ ∧
    store.index 1 < 2 ∧ store.index 2 < 3 ∧ store.index 0 ≤ store.index 2 ∧ store.index 2 ≤ 2 ∧
    store.index 0 ≤ store.index 3 ∧ store.index 3 ≤ 3 := by
  decide +kernel

theorem witness_MatrixRowsAndColumnsComplete :
    store.getM 1 = some ⟨2, 3, .denseRow, [[1, 2, 3], [4, 5, 6]]⟩ ∧ store.index 1 < 2 ∧ store.index 2 < 3 ∧
    store.getV 1 = some [10, 11, 12] ∧ ([10, 11, 12] : List Byte).length = 3 ∧
    store.getV 2 = some [13, 14] ∧ ([13, 14] : List Byte).length = 2 ∧ store.index 0 < 2 ∧ store.index 1 < 3 := by
  decide +kernel

theorem witness_MatrixRearrangementsComplete :
    (store.getM 1 = some ⟨2, 3, .denseRow, [[1, 2, 3], [4, 5, 6]]⟩ ∧ (store.index 0 ≤ store.index 2 ∧ store.index 2 ≤ 2) ∧
    (store.index 0 ≤ store.index 3 ∧ store.index 3 ≤ 3) ∧ 0 < 2 ∧ 0 < 3 ∧
    store.getP 1 = some [1, 0] ∧ 2 ≤ store.params.mMaxDim ∧ store.getP 2 = some [2, 2, 0] ∧
    3 ≤ store.params.mMaxDim) ∧ (∀ w ∈ ([1, 0] : List Word), w.toNat < 2) ∧
    ∀ w ∈ ([2, 2, 0] : List Word), w.toNat < 3 :=
  ⟨by decide +kernel, below (by decide +kernel), below (by decide +kernel)⟩

theorem witness_MatrixStoreFaultsInOrder :
    (store.params.mMaxDim < store.index 6 ∧ store.getM 9 = none ∧ store.getV 9 = none ∧ store.getP 9 = none ∧
    store.getM 1 = some ⟨2, 3, .denseRow, [[1, 2, 3], [4, 5, 6]]⟩ ∧ 2 ≤ store.index 2 ∧ 3 ≤ store.index 3 ∧
    store.getV 2 = some [13, 14] ∧ 2 ≠ 3 ∧ store.getV 1 = some [10, 11, 12] ∧
    ¬ (store.index 2 ≤ store.index 1 ∧ store.index 1 ≤ 2 ∧ store.index 0 ≤ store.index 0 ∧ store.index 0 ≤ 3) ∧
    ¬ (store.index 3 ≤ 2 ∧ store.index 3 ≤ 3) ∧ store.getP 2 = some [2, 2, 0] ∧ store.getP 3 = some [5] ∧
    (store.setP 3 (some (List.replicate 65 0))).getP 3 = some (List.replicate 65 0) ∧ store.params.mMaxDim < 65) ∧
    (∃ w ∈ ([2, 2, 0] : List Word), 2 ≤ w.toNat) ∧ (∃ w ∈ ([5] : List Word), 3 ≤ w.toNat) ∧
    ∀ w ∈ List.replicate 65 (0 : Word), w.toNat < 2 :=
  ⟨by decide +kernel, ⟨2, by simp, by decide⟩, ⟨5, by simp, by decide⟩, below (by decide +kernel)⟩

theorem witness_MatrixElementwiseCompletes :
    arith.getM 4 = some ⟨2, 3, .denseRow, [[1, 2, 3], [4, 5, 6]]⟩ ∧
    arith.getM 5 = some ⟨2, 3, .denseRow, [[0, 2, 0], [4, 0, 6]]⟩ ∧ arith.element 4 ≠ 0 := by
  decide +kernel

theorem witness_MatrixProductsComplete :
    arith.getM 1 = some ⟨2, 2, .denseRow, [[1, 2], [3, 4]]⟩ ∧
    arith.getM 4 = some ⟨2, 3, .denseRow, [[1, 2, 3], [4, 5, 6]]⟩ ∧ arith.getV 1 = some [1, 2] ∧
    ([1, 2] : List Byte).length = 2 := by
  decide +kernel

theorem witness_MatrixPowerIsRepeatedProduct :
    arith.getM 1 = some ⟨2, 2, .denseRow, [[1, 2], [3, 4]]⟩ ∧ arith.getX 7 = 0xFFFFFFFF := by decide +kernel

theorem witness_RectangleUpdatesComplete :
    arith.getM 4 = some ⟨2, 3, .denseRow, [[1, 2, 3], [4, 5, 6]]⟩ ∧ (arith.index 0 ≤ arith.index 2 ∧ arith.index 2 ≤ 2) ∧
    (arith.index 1 ≤ arith.index 3 ∧ arith.index 3 ≤ 3) := by
  decide +kernel

/-- The same rectangle, and an empty one. -/
theorem witness_RectangleFoldsComplete :
    arith.getM 4 = some ⟨2, 3, .denseRow, [[1, 2, 3], [4, 5, 6]]⟩ ∧ (arith.index 2 ≤ arith.index 2 ∧ arith.index 2 ≤ 2) ∧
    (arith.index 1 ≤ arith.index 3 ∧ arith.index 3 ≤ 3) := by
  decide +kernel

theorem witness_PredicatesAsTabled :
    arith.getM 7 = some ⟨2, 2, .denseRow, [[1, 0], [0, 1]]⟩ ∧ arith.getM 6 = some ⟨0, 0, .denseRow, []⟩ ∧
    PredMeans .identity ⟨2, 2, .denseRow, [[1, 0], [0, 1]]⟩ ∧ ¬ PredMeans .zero ⟨2, 2, .denseRow, [[1, 0], [0, 1]]⟩ ∧
    0 * 0 = 0 := by
  have h : ∀ i, i < 2 → ∀ j, j < 2 → ByteMatrix.e ⟨2, 2, .denseRow, [[1, 0], [0, 1]]⟩ i j = if i = j then 1 else 0 := by
    decide +kernel
  exact ⟨by decide +kernel, by decide +kernel, ⟨rfl, fun i j hi hj => h i hi j hj⟩,
    fun z => absurd (z 0 0 (by decide) (by decide)) (by decide +kernel), rfl⟩

theorem witness_MatrixArithmeticFaultsInOrder :
    arith.getM 9 = none ∧ arith.getV 9 = none ∧ arith.getM 4 = some ⟨2, 3, .denseRow, [[1, 2, 3], [4, 5, 6]]⟩ ∧
    arith.getM 1 = some ⟨2, 2, .denseRow, [[1, 2], [3, 4]]⟩ ∧ ¬ (2 = 2 ∧ 3 = 2) ∧ 3 ≠ 2 ∧
    arith.getV 1 = some [1, 2] ∧ arith.getV 2 = some [1, 2, 3] ∧ arith.element 0 = 0 ∧
    ¬ (arith.index 0 ≤ arith.index 3 ∧ arith.index 3 ≤ 2 ∧ arith.index 0 ≤ arith.index 1 ∧ arith.index 1 ≤ 3) := by
  decide +kernel

theorem witness_GecfgSetsOrFaults :
    gecfgFieldsOk 2 1 2 ⟨true, true, true⟩ = true ∧ gauss.getM 9 = none ∧ gauss.getM 1 = some gaussA ∧
    gauss.getM 2 = some gaussD ∧ gauss.getP 1 = some [0, 1, 2] ∧ gauss.getP 2 = some [0, 1, 2] ∧
    gauss.getM 3 = some ⟨2, 1, .denseRow, [[1], [2]]⟩ ∧ gauss.getP 3 = some [0, 1] ∧ gauss.getP 9 = none ∧
    gecfgFieldsOk 1 1 1 ⟨true, true, true⟩ = true ∧ gaussA.rows = 3 ∧ gaussA.cols = 3 := by
  decide +kernel

/-- A context with every part. -/
theorem context_full : ContextIs gaussSet gaussA (some gaussD) (some [0, 1, 2]) (some [0, 1, 2]) where
  valid := rfl
  coefficients := rfl
  rightHand := rfl
  rowList := rfl
  colList := rfl
  dPresent := rfl
  prPresent := rfl
  pcPresent := rfl
  dRows := by rintro _ ⟨⟩; rfl
  prLength := by rintro _ ⟨⟩; rfl
  pcLength := by rintro _ ⟨⟩; rfl
  dApart := by decide +kernel
  listsApart := by decide +kernel

/-- A context of A alone. -/
theorem context_alone : ContextIs gaussAlone gaussA none none none where
  valid := rfl
  coefficients := rfl
  rightHand := rfl
  rowList := rfl
  colList := rfl
  dPresent := rfl
  prPresent := rfl
  pcPresent := rfl
  dRows := by rintro _ ⟨⟩
  prLength := by rintro _ ⟨⟩
  pcLength := by rintro _ ⟨⟩
  dApart := by decide +kernel
  listsApart := by decide +kernel

theorem witness_RowOperationsComplete :
    ContextIs gaussSet gaussA (some gaussD) (some [0, 1, 2]) (some [0, 1, 2]) ∧
    gaussSet.index 2 < gaussA.rows ∧ gaussSet.index 2 < gaussA.cols ∧ gaussSet.index 0 < gaussA.rows :=
  ⟨context_full, by decide +kernel⟩

theorem witness_PivotStepsComplete :
    ContextIs gaussSet gaussA (some gaussD) (some [0, 1, 2]) (some [0, 1, 2]) ∧ gaussSet.index 2 < gaussA.rows ∧
    gaussSet.index 2 < gaussA.cols ∧ gaussA.e (gaussSet.index 2) (gaussSet.index 2) ≠ 0 ∧
    gaussSet.index 0 ≤ gaussSet.index 3 ∧ gaussSet.index 3 ≤ gaussA.rows :=
  ⟨context_full, by decide +kernel⟩

theorem witness_PivotSearchesComplete :
    ContextIs gaussAlone gaussA none none none ∧ gaussAlone.index 0 ≤ gaussAlone.index 3 ∧
    gaussAlone.index 3 ≤ gaussA.rows ∧ gaussAlone.index 2 < gaussA.cols ∧ gaussAlone.index 3 ≤ gaussA.cols :=
  ⟨context_alone, by decide +kernel⟩

theorem witness_GerrefReducesAndKeepsSolutions :
    ContextIs gaussSet gaussA (some gaussD) (some [0, 1, 2]) (some [0, 1, 2]) ∧ gaussA.wf = true ∧
    (∀ o, some gaussD = some o → o.wf = true) ∧ gaussA.rows = gaussA.cols :=
  ⟨context_full, by decide, by rintro _ ⟨⟩; decide, rfl⟩

theorem witness_GeFaultsInOrder :
    (gauss.ge.valid = false ∧ gaussSet.ge.valid = true ∧ (gaussSet.setM 2 none).getM 2 = none ∧
    (gaussSet.setM 2 (some ⟨2, 1, .denseRow, [[1], [2]]⟩)).getM 2 = some ⟨2, 1, .denseRow, [[1], [2]]⟩ ∧
    2 ≠ gaussA.rows) ∧ ContextIs gaussSet gaussA (some gaussD) (some [0, 1, 2]) (some [0, 1, 2]) ∧
    gaussA.rows ≤ gaussSet.index 3 ∧ gaussA.cols ≤ gaussSet.index 3 ∧
    ¬ (gaussSet.index 2 ≤ gaussSet.index 1 ∧ gaussSet.index 1 ≤ gaussA.rows) ∧
    ¬ (gaussSet.index 0 ≤ gaussSet.index 5 ∧ gaussSet.index 5 ≤ gaussA.rows ∧ gaussSet.index 0 ≤ gaussSet.index 3 ∧
      gaussSet.index 3 ≤ gaussA.cols) ∧
    gaussA.e (gaussSet.index 0) (gaussSet.index 0) = 0 ∧ gaussSet.index 1 ≤ gaussSet.index 1 :=
  ⟨by decide +kernel, context_full, by decide +kernel⟩

theorem witness_SolverCommandsComplete :
    (1 ≤ solver.index 1 ∧ solver.index 1 ≤ solver.params.svMaxL ∧ 1 ≤ solver.index 2 ∧
      solver.index 2 ≤ solver.params.svMaxT ∧ solved.sv.state = .solved ∧
    collecting.sv.state = .collecting ∧ collecting.getV 1 = some [0, 2, 1] ∧ collecting.getV 2 = some [0x0B, 0x3B] ∧
    ([0, 2, 1] : List Byte).length = collecting.sv.l.toNat ∧ ([0x0B, 0x3B] : List Byte).length = collecting.sv.t.toNat ∧
    collecting.sv.rows.length + 1 ≤ collecting.params.svMaxRows) ∧
    ∃ m o, collecting.getM 1 = some m ∧ collecting.getM 2 = some o ∧ m.wf = true ∧ o.wf = true ∧
      m.cols = collecting.sv.l.toNat ∧ o.cols = collecting.sv.t.toNat ∧ m.rows = o.rows ∧
      collecting.sv.rows.length + m.rows ≤ collecting.params.svMaxRows :=
  ⟨by decide +kernel, _, _, rfl, rfl, by decide +kernel⟩

/-- 128 rows collected: the solver is full. -/
def full : State := { collecting with sv := { collecting.sv with rows := List.replicate 128 ([0, 0, 0], [0, 0]) } }

theorem witness_SolverFaultsInOrder :
    (solver.index 0 = 0 ∧ solver.params.svMaxT < solver.index 7 ∧ solver.sv.state = .idle ∧
    collecting.sv.state = .collecting ∧ collecting.getV 9 = none ∧ collecting.getM 9 = none ∧
    collecting.getV 1 = some [0, 2, 1] ∧ collecting.getV 3 = some [1] ∧ 1 ≠ collecting.sv.t.toNat ∧
    full.getV 2 = some [0x0B, 0x3B] ∧ full.params.svMaxRows < full.sv.rows.length + 1 ∧ full.sv.state = .collecting ∧
    ([0, 2, 1] : List Byte).length = full.sv.l.toNat ∧ ([0x0B, 0x3B] : List Byte).length = full.sv.t.toNat ∧
    collecting.sv.rows.length < collecting.sv.l.toNat) ∧
    (∃ m o, full.getM 1 = some m ∧ full.getM 2 = some o ∧ m.cols = full.sv.l.toNat ∧ o.cols = full.sv.t.toNat ∧
      m.rows = o.rows ∧ full.params.svMaxRows < full.sv.rows.length + m.rows) ∧
    ∃ m o, full.getM 1 = some m ∧ full.getM 4 = some o ∧ m.rows ≠ o.rows :=
  ⟨by decide +kernel, ⟨_, _, rfl, rfl, by decide +kernel⟩, _, _, rfl, rfl, by decide +kernel⟩

theorem xor_zero' (a : Byte) : a ^^^ (0 : Byte) = a := BitVec.xor_zero

theorem zero_xor' (a : Byte) : (0 : Byte) ^^^ a = a := BitVec.zero_xor

theorem xor_zero_iff {a b : Byte} (h : a ^^^ b = 0) : a = b := BitVec.xor_eq_zero_iff.mp h

theorem two_thirds : ∀ b : Byte, gfMul 3 b = gfMul 2 b → b = 0 := by decide +kernel

theorem one_mul : ∀ b : Byte, gfMul 1 b = b ∧ gfMul 0 b = 0 := by decide +kernel

/-- The four rows of table 2.8 have rank 3. -/
theorem fourRows_fullRank : FullRank 3 fourRows := by
  intro x h j hj
  have h1 := h ([0, 2, 1], [0x0B, 0x3B]) (by simp [fourRows])
  have h2 := h ([1, 1, 0], [3, 3]) (by simp [fourRows])
  have h3 := h ([3, 0, 1], [8, 0x28]) (by simp [fourRows])
  have o := one_mul
  simp only [dot, List.range, List.range.loop, List.foldl, vecAt, List.getD, List.getElem?_cons_zero,
    List.getElem?_cons_succ, Option.getD_some] at h1 h2 h3
  have e1 := (o (x 0)).2
  have e2 := (o (x 0)).1
  have e3 := (o (x 1)).1
  have e4 := (o (x 1)).2
  have e5 := (o (x 2)).1
  have e6 := (o (x 2)).2
  simp only [e1, e2, e3, e4, e5, e6, xor_zero', zero_xor'] at h1 h2 h3
  have i1 := xor_zero_iff h1
  have i2 := xor_zero_iff h2
  have i3 := xor_zero_iff h3
  have z : x 1 = 0 := two_thirds _ (by rw [i1, ← i3, i2])
  interval_cases j
  · rw [i2, z]
  · exact z
  · rw [← i1, z]; decide +kernel

theorem witness_SvrunSolvesExactlyFullRank :
    collected.sv.state = .collecting ∧ collected.sv.l.toNat ≤ collected.sv.rows.length ∧
    FullRank collected.sv.l.toNat collected.sv.rows ∧
    collecting.sv.state = .collecting ∧
    ¬ (collecting.sv.l.toNat ≤ collecting.sv.rows.length ∧ FullRank collecting.sv.l.toNat collecting.sv.rows) :=
  ⟨by decide +kernel, by decide +kernel, fourRows_fullRank, by decide +kernel, fun h => absurd h.1 (by decide +kernel)⟩

/-- The X that the sender of Part 4's program 4 has. -/
def sentX (j q : Nat) : Byte := vecAt (([[5, 0x15], [6, 0x16], [7, 0x17]] : List (List Byte)).getD j []) q

theorem witness_SvrunNeverWrong :
    collected.sv.state = .collecting ∧
    ∀ row ∈ collected.sv.rows, RowHolds collected.sv.l.toNat collected.sv.t.toNat row sentX := by
  unfold RowHolds
  decide +kernel

theorem witness_SvrunSatisfiesAnInvertibleSubset :
    ∃ t, exec .svrun collected = .next t ∧ t.sv.state = .solved := 
  ⟨after .svrun collected, exec_after (by decide +kernel), by decide +kernel⟩

theorem witness_SvrunDeterministicAndMonotone :
    collected.sv.rows = ({ collected with cmdcnt := 1 } : State).sv.rows ∧
    (∃ t, exec .svrun collected = .next t ∧ t.sv.state = .solved) ∧
    (∃ t, exec .svrun { collected with cmdcnt := 1 } = .next t ∧ t.sv.state = .solved) ∧
    (∃ s, Inv s ∧ s.sv.state = .solved ∧ ∃ t, exec .svrun s = .next t) ∧ (solveRows 3 2 fourRows).isSome = true :=
  ⟨rfl, witness_SvrunSatisfiesAnInvertibleSubset,
    ⟨after .svrun { collected with cmdcnt := 1 }, exec_after (by decide +kernel), by decide +kernel⟩,
    ⟨_, inv_solved, by decide +kernel, exists_next (by decide +kernel)⟩, by decide +kernel⟩

end Sys2Proof.Tests
end

section
/-! PROOFS. The host's window as the obligations on the registers speak of it (10_state.md R40 to R54; 20_memory.md
R71, R72): one law for each kind of access, then the statements settled from them. -/

namespace Sys2Proof.Machine

/-! Busy is a queue with a word in it (R31). -/

theorem State.busy_iff (s : State) : s.busy = true ↔ s.queue ≠ [] := by
  simp [State.busy, State.qcount, List.length_pos_iff]

theorem State.busy_of_queue {s : State} (h : s.queue ≠ []) : s.busy = true := s.busy_iff.mpr h

theorem State.idle_of_queue {s : State} (h : s.queue = []) : s.busy = false := by
  simp [State.busy, State.qcount, h]

/-! The scalar registers' offsets (R49). -/

/-- R21: a write to `X0` is discarded. -/
@[simp] theorem State.setX_zero (s : State) (w : Word) : s.setX 0 w = s := rfl

@[simp] theorem windowReg_word (n : XReg) : windowReg (0x040 + 4 * n.val) = n := by
  apply Fin.ext
  simp only [windowReg, Fin.ofNat]
  omega

theorem readWindow_register (n : XReg) (during : Bool) (s : State) :
    readWindow (0x040 + 4 * n.val) during s = if s.busy then (0, s.refuseAccess) else (s.getX n, s) := by
  unfold readWindow
  split
  case h_20 => rw [if_pos (by omega), windowReg_word]
  all_goals omega

theorem writeWindow_register (n : XReg) (w : Word) (s : State) :
    writeWindow (0x040 + 4 * n.val) w s = if s.busy then s.refuseAccess else s.setX n w := by
  unfold writeWindow
  split
  case h_8 => rw [if_pos (by omega), windowReg_word]
  all_goals omega

/-! The other offsets: reserved (R54) and read-only (R43 to R45, R47, R48). -/

/-- R54: the offsets that R40's map leaves over. -/
theorem readWindow_reserved {off : Nat} (h : off = 0x03C ∨ 0x090 ≤ off) (during : Bool) (s : State) :
    readWindow off during s = (0, s) := by
  have noRegister : ¬ (0x040 ≤ off ∧ off ≤ 0x07C) := by omega
  unfold readWindow
  split
  case h_20 => rw [if_neg noRegister]
  all_goals exact absurd h (by decide)

/-- A write to an offset that is neither one of R40's writable words nor a scalar register. -/
theorem writeWindow_ignored {off : Nat} (h : off ∉ [0x008, 0x00C, 0x020, 0x080, 0x084, 0x088, 0x08C])
    (hx : off < 0x040 ∨ 0x07C < off) (w : Word) (s : State) : writeWindow off w s = s := by
  have noRegister : ¬ (0x040 ≤ off ∧ off ≤ 0x07C) := by omega
  unfold writeWindow
  split
  case h_8 => rw [if_neg noRegister]
  all_goals exact absurd h (by decide)

/-- What a `DWDATA` read does to the state: refused, or `DWADDR` moves (R74 to R76). -/
theorem readDwData_state (s : State) :
    (readDwData s).2 = s.refuseAccess ∨ ∃ a, (readDwData s).2 = { s with dwaddr := a } := by
  unfold readDwData
  split
  · exact .inl rfl
  · split
    · split
      · exact .inr ⟨_, rfl⟩
      · exact .inr ⟨_, rfl⟩
      · exact .inr ⟨_, rfl⟩
      · exact .inl rfl
    · exact .inl rfl

/-- What an `SVSTATE` read does to the state: nothing, or one more free value drawn (R47, log 4). -/
theorem readSvState_state (during : Bool) (s : State) :
    (readSvState during s).2 = s ∨ during = true ∧ (readSvState during s).2 = { s with draws := s.draws + 1 } := by
  unfold readSvState
  split
  next h => exact .inr ⟨(Bool.and_eq_true_iff.mp h).1, rfl⟩
  next => exact .inl rfl

/-- All that a read can do to the state: nothing, a refusal, a free value drawn, or `DWADDR` moved (R72). -/
theorem readWindow_state (off : Nat) (during : Bool) (s : State) :
    (readWindow off during s).2 = s ∨
    ((s.busy = true ∨ off = 0x088) ∧ (readWindow off during s).2 = s.refuseAccess) ∨
    (during = true ∧ (readWindow off during s).2 = { s with draws := s.draws + 1 }) ∨
    off = 0x088 ∧ ∃ a, (readWindow off during s).2 = { s with dwaddr := a } := by
  unfold readWindow
  split
  case h_10 =>
    obtain h | h := readSvState_state during s
    · exact .inl h
    · exact .inr (.inr (.inl h))
  case h_18 =>
    obtain h | h := readDwData_state s
    · exact .inr (.inl ⟨.inr rfl, h⟩)
    · exact .inr (.inr (.inr ⟨rfl, h⟩))
  case h_19 =>
    split
    next h => exact .inr (.inl ⟨.inl h, rfl⟩)
    next => exact .inl rfl
  case h_20 =>
    split
    · split
      next h => exact .inr (.inl ⟨.inl h, rfl⟩)
      next => exact .inl rfl
    · exact .inl rfl
  all_goals exact .inl rfl

/-- R72: while the core is idle, a read other than `DWDATA`'s, made before any command executes, has no side effect. -/
theorem readWindow_idle_state {s : State} (hq : s.queue = []) {off : Nat} (hoff : off ≠ 0x088) :
    (readWindow off false s).2 = s := by
  obtain h | ⟨hbusy | hdata, -⟩ | ⟨hduring, -⟩ | ⟨hdata, -⟩ := readWindow_state off false s
  · exact h
  · rw [State.idle_of_queue hq] at hbusy
    contradiction
  · exact absurd hdata hoff
  · contradiction
  · exact absurd hdata hoff

/-! Accesses (R71). -/

theorem accessOk_eq_false {off : BitVec 12} {bytes : Nat} (h : bytes ≠ 4 ∨ off.toNat % 4 ≠ 0) :
    accessOk off bytes = false := by
  simp only [accessOk, decide_eq_false_iff_not]
  omega

theorem accessOk_word {off : BitVec 12} (h : off.toNat % 4 = 0) : accessOk off 4 = true := by
  simp [accessOk, h]

theorem hostAccess_read_busError {off : BitVec 12} {bytes : Nat} (h : accessOk off bytes = false) (during : Bool)
    (s : State) : hostAccess (.read off bytes) during s = { s with response := some .busError } := by
  simp [hostAccess, h]

theorem hostAccess_write_busError {off : BitVec 12} {bytes : Nat} (h : accessOk off bytes = false) (w : Word)
    (during : Bool) (s : State) :
    hostAccess (.write off bytes w) during s = { s with response := some .busError } := by
  simp [hostAccess, h]

theorem hostAccess_read_ok {off : BitVec 12} {bytes : Nat} (h : accessOk off bytes = true) (during : Bool)
    (s : State) : hostAccess (.read off bytes) during s =
      { (readWindow off.toNat during s).2 with response := some (.data (readWindow off.toNat during s).1) } := by
  simp [hostAccess, h]

theorem hostAccess_write_ok {off : BitVec 12} {bytes : Nat} (h : accessOk off bytes = true) (w : Word)
    (during : Bool) (s : State) :
    hostAccess (.write off bytes w) during s = { writeWindow off.toNat w s with response := some .written } := by
  simp [hostAccess, h]

/-! Pushes (R46). -/

theorem push_dropped {s : State} (h : s.status.fault = true ∨ s.params.qDepth ≤ s.queue.length) (w : Word) :
    push w s = { s with status := { s.status with overrun := true } } := by
  rw [push, if_pos]
  rw [Bool.or_eq_true, decide_eq_true_eq]
  exact h

theorem push_appended {s : State} (hf : s.status.fault = false) (hq : s.queue.length < s.params.qDepth) (w : Word) :
    push w s = { s with queue := s.queue ++ [w] } := by
  rw [push, if_neg]
  rw [hf, Bool.false_or, decide_eq_true_eq]
  exact Nat.not_le.mpr hq

/-! `CTRL` (R41) and the reset it can ask for (R401). -/

@[simp] theorem Ctrl.word_ofWord (w : Word) : (Ctrl.ofWord w).word = w &&& 7 := by
  apply BitVec.eq_of_toNat_eq
  have low : w.toNat &&& 7 = w.toNat % 8 := Nat.and_two_pow_sub_one_eq_mod w.toNat 3
  rw [BitVec.toNat_and, show (7 : Word).toNat = 7 from rfl, low]
  simp only [Ctrl.word, Ctrl.ofWord, BitVec.getLsbD, Nat.toNat_testBit, BitVec.toNat_ofNat]
  omega

@[simp] theorem Ctrl.word_and_seven (c : Ctrl) : c.word &&& 7 = c.word := by
  obtain ⟨d, f, g⟩ := c
  revert d f g
  decide

theorem writeCtrl_enables {w : Word} (h : w.getLsbD 31 = false) (s : State) :
    writeCtrl w s = { s with ctrl := Ctrl.ofWord w } :=
  if_neg (Bool.eq_false_iff.mp h)

theorem writeCtrl_reset {w : Word} (h : w.getLsbD 31 = true) (s : State) : writeCtrl w s = resetBlock s :=
  if_pos h

/-- R401: the reset of any state. -/
theorem isReset_resetBlock (s : State) : IsReset (resetBlock s) where
  x n := by simp [State.getX, resetBlock, State.resetWith]
  cmdcnt := rfl
  m k := by simp [State.getM, resetBlock, State.resetWith]
  v k := by simp [State.getV, resetBlock, State.resetWith]
  p k := by simp [State.getP, resetBlock, State.resetWith]
  ge := rfl
  sv := rfl
  queue := rfl
  qcount := rfl
  cause := rfl
  faultCmd := rfl
  faultSeq := rfl
  ctrl := rfl
  status := rfl
  dwsel := rfl
  dwaddr := rfl
  irq := rfl
  ident := rfl
  version := rfl
  qdepth := rfl

/-! The cause register (R43). -/

theorem Cause.code_range (c : Cause) : 1 ≤ c.code ∧ c.code ≤ 10 := by
  cases c <;> decide

theorem State.causeWord_le (s : State) : s.causeWord.toNat ≤ 10 := by
  unfold State.causeWord
  split
  next => decide
  next c _ =>
    have := c.code_range
    rw [BitVec.toNat_ofNat]
    omega

theorem State.causeWord_eq_zero_iff (s : State) : s.causeWord = 0 ↔ s.cause = none := by
  unfold State.causeWord
  split
  next h => simp [h]
  next c h =>
    have := c.code_range
    simp only [h, reduceCtorEq, iff_false]
    intro hz
    have := congrArg BitVec.toNat hz
    simp at this
    omega

/-! The statements. -/

/-- Settles O2: the laws of `getX` and `setX`, and a register's offset with the lock while busy. -/
theorem registerWords : Obligations.RegisterWords := by
  unfold Obligations.RegisterWords
  intro s n w during
  refine ⟨s.getX_zero, s.setX_zero w, fun hn => ⟨?_, fun k hk => ?_⟩, fun hq => ?_, fun hq => ?_⟩
  · simp [hn]
  · simp [hk]
  · rw [readWindow_register, writeWindow_register, State.idle_of_queue hq]
    exact ⟨rfl, rfl⟩
  · rw [readWindow_register, writeWindow_register, State.busy_of_queue hq]
    exact ⟨rfl, rfl⟩

/-- Settles O13: the two ways a push can go. -/
theorem pushAppendsOrOverruns : Obligations.PushAppendsOrOverruns := by
  unfold Obligations.PushAppendsOrOverruns
  intro s w during
  exact ⟨fun h => push_dropped (h.imp_right Eq.ge) w, fun hf hq => push_appended hf hq w, rfl⟩

/-- Settles O14: a refused access, and the reserved offsets behind an accepted one. -/
theorem busErrorsAndReservedOffsets : Obligations.BusErrorsAndReservedOffsets := by
  unfold Obligations.BusErrorsAndReservedOffsets
  refine ⟨fun s off bytes w during h => ?_, fun _ _ => rfl, fun s off w during haligned hreserved => ?_⟩
  · have hbad := accessOk_eq_false h
    exact ⟨hostAccess_read_busError hbad during s, hostAccess_write_busError hbad w during s⟩
  · have hok := accessOk_word haligned
    have hignored : writeWindow off.toNat w s = s := by
      apply writeWindow_ignored
      · simp only [List.mem_cons, List.not_mem_nil, or_false]
        omega
      · omega
    rw [hostAccess_read_ok hok, hostAccess_write_ok hok, readWindow_reserved hreserved, hignored]
    exact ⟨rfl, rfl⟩

/-- Settles O17: `CTRL` reads back its three low bits, and bit 31 is `resetBlock`. -/
theorem ctrlHoldsThreeEnables : Obligations.CtrlHoldsThreeEnables := by
  unfold Obligations.CtrlHoldsThreeEnables
  intro s w during
  have hwrite : writeWindow 0x008 w s = writeCtrl w s := rfl
  refine ⟨fun h => ?_, fun h => ?_, s.ctrl.word_and_seven, rfl⟩
  · rw [hwrite, writeCtrl_enables h]
    exact ⟨Ctrl.word_ofWord w, rfl⟩
  · rw [hwrite, writeCtrl_reset h]
    exact isReset_resetBlock s

/-- Settles O23: the registers' reads, the offsets that ignore a write, and the idle reads. -/
theorem recordAndCountersReadOnly : Obligations.RecordAndCountersReadOnly := by
  unfold Obligations.RecordAndCountersReadOnly
  refine ⟨fun s w during => ⟨rfl, rfl, rfl, rfl, rfl, s.causeWord_le, s.causeWord_eq_zero_iff, Inv.record, ?_⟩,
    fun s off hq hoff => readWindow_idle_state hq hoff⟩
  intro off hoff
  have readOnly : ∀ o ∈ [0x000, 0x004, 0x010, 0x014, 0x018, 0x01C, 0x024, 0x028, 0x02C, 0x030, 0x034, 0x038],
      o ∉ [0x008, 0x00C, 0x020, 0x080, 0x084, 0x088, 0x08C] ∧ (o < 0x040 ∨ 0x07C < o) := by decide
  obtain ⟨notWritable, notRegister⟩ := readOnly off hoff
  exact writeWindow_ignored notWritable notRegister w s

end Sys2Proof.Machine
end

section
/-! PROOFS. The data window of an idle core: the size `DWSIZE` reads (10_state.md R53) and the `DWDATA` accesses that
are refused (20_memory.md R76). -/

namespace Sys2Proof.Machine

/-! The selected object, for each `DWSEL.KIND`; an `Unallocated` slot holds nothing (R50, R76). -/

theorem State.selected_matrix {s : State} (h : s.dwsel.kind = 0) :
    s.selected = (s.getM s.dwsel.slot).elim .nothing .matrix := by
  rw [State.selected, h]
  cases s.getM s.dwsel.slot <;> rfl

theorem State.selected_vector {s : State} (h : s.dwsel.kind = 1) :
    s.selected = (s.getV s.dwsel.slot).elim .nothing .vector := by
  rw [State.selected, h]
  cases s.getV s.dwsel.slot <;> rfl

theorem State.selected_indexList {s : State} (h : s.dwsel.kind = 2) :
    s.selected = (s.getP s.dwsel.slot).elim .nothing .indexList := by
  rw [State.selected, h]
  cases s.getP s.dwsel.slot <;> rfl

theorem State.selected_reserved {s : State} (h : s.dwsel.kind = 3) : s.selected = .nothing := by
  rw [State.selected, h]

/-! `DWSIZE` while the core is idle (R53, R405(a)). -/

theorem readWindow_dwsize_idle {s : State} (h : s.queue = []) (during : Bool) :
    readWindow 0x08C during s = (s.selectedSize, s) :=
  if_neg (Bool.eq_false_iff.mp (State.idle_of_queue h))

theorem writeWindow_dwsize_idle {s : State} (h : s.queue = []) (w : Word) : writeWindow 0x08C w s = s :=
  if_neg (Bool.eq_false_iff.mp (State.idle_of_queue h))

/-! `DWDATA` with `DWADDR` outside the object, busy or not (R74, R76). -/

theorem readDwData_refused {s : State} (h : s.selectedSize ≤ s.dwaddr) : readDwData s = (0, s.refuseAccess) := by
  rw [readDwData, if_neg (BitVec.not_lt.mpr h), ite_self]

theorem writeDwData_refused {s : State} (h : s.selectedSize ≤ s.dwaddr) (w : Word) :
    writeDwData w s = s.refuseAccess := by
  rw [writeDwData, if_neg (BitVec.not_lt.mpr h), ite_self]

/-- Settles O21: the size by `DWSEL.KIND`, then `DWSIZE` and the two refusals at `DWADDR` ≥ size. -/
theorem dataWindowRefusals : Obligations.DataWindowRefusals := by
  unfold Obligations.DataWindowRefusals
  intro s w during hq
  refine ⟨fun size hkind => ?_, writeWindow_dwsize_idle hq w⟩
  have hsize : s.selectedSize = BitVec.ofNat 32 size := by
    unfold State.selectedSize
    obtain ⟨h, rfl⟩ | ⟨h, rfl⟩ | ⟨h, rfl⟩ | ⟨h, rfl⟩ := hkind
    · rw [State.selected_matrix h]
      cases s.getM s.dwsel.slot <;> rfl
    · rw [State.selected_vector h]
      cases s.getV s.dwsel.slot <;> rfl
    · rw [State.selected_indexList h]
      cases s.getP s.dwsel.slot <;> rfl
    · rw [State.selected_reserved h]
      rfl
  rw [← hsize]
  exact ⟨readWindow_dwsize_idle hq during, fun h => ⟨readDwData_refused h, writeDwData_refused h w⟩⟩

end Sys2Proof.Machine
end

section
/-! PROOFS. The decoder and the encoder undo each other: a word decodes to a command exactly when it is the word of
that well-formed command (30_encoding.md R108 to R112). -/

namespace Sys2Proof

/-! When a check of the decoder lets the command through (R103, R106, R304). -/

theorem reservedZero_ok {zs : List (Fin 16)} {k : Except IllegalWord Instr} {i : Instr} :
    reservedZero zs k = .ok i ↔ (∀ z ∈ zs, z = 0) ∧ k = .ok i := by
  simp only [reservedZero, List.all_eq_true, beq_iff_eq]
  split
  next h => exact (and_iff_right h).symm
  next h => simp [h]

theorem legalCode_ok {α : Type} {c : Option α} {k : α → Except IllegalWord Instr} {i : Instr} :
    legalCode c k = .ok i ↔ ∃ v, c = some v ∧ k v = .ok i := by
  cases c <;> simp [legalCode]

theorem flagFieldsClear_ok {fl : GeFlags} {b c d : Fin 16} {k : Except IllegalWord Instr} {i : Instr} :
    flagFieldsClear fl b c d k = .ok i ↔ gecfgFieldsOk b c d fl = true ∧ k = .ok i := by
  rw [flagFieldsClear]
  split
  next h => exact (and_iff_right h).symm
  next h => simp [h]

/-! A code table answers a value for that value's code only (R106). -/

theorem decodeRepr_eq_some {n : Fin 16} {r : ReprCode} : decodeRepr n = some r ↔ n = r.code := by
  refine ⟨?_, fun h => h ▸ decodeRepr_code r⟩
  revert n
  cases r <;> decide

theorem decodeInit_eq_some {n : Fin 16} {r : InitCode} : decodeInit n = some r ↔ n = r.code := by
  refine ⟨?_, fun h => h ▸ decodeInit_code r⟩
  revert n
  cases r <;> decide

theorem decodePred_eq_some {n : Fin 16} {r : PredCode} : decodePred n = some r ↔ n = r.code := by
  refine ⟨?_, fun h => h ▸ decodePred_code r⟩
  revert n
  cases r <;> decide

theorem decodeFlags_eq_some {n : Fin 16} {fl : GeFlags} : decodeFlags n = some fl ↔ n = fl.code := by
  refine ⟨?_, fun h => h ▸ decodeFlags_code fl⟩
  obtain ⟨d, pr, pc⟩ := fl
  revert n d pr pc
  decide

/-! A word's fields, packed again, are the word. -/

/-- The format R word of the fields (R101). -/
def Fields.wordR (f : Fields) : Word := packR f.op f.a f.b f.c f.d f.e f.g

/-- The format I word of the fields (R102). -/
def Fields.wordI (f : Fields) : Word := packI f.op f.a f.b f.imm

theorem fieldsOf_op_lt (w : Word) : (fieldsOf w).op < 256 := by
  have := w.isLt
  simp only [fieldsOf]
  omega

@[simp] theorem wordR_fieldsOf (w : Word) : (fieldsOf w).wordR = w := by
  apply BitVec.eq_of_toNat_eq
  rw [Fields.wordR, packR_toNat _ _ _ _ _ _ _ (fieldsOf_op_lt w)]
  simp only [fieldsOf, nibble, Fin.ofNat]
  omega

@[simp] theorem wordI_fieldsOf (w : Word) : (fieldsOf w).wordI = w := by
  apply BitVec.eq_of_toNat_eq
  rw [Fields.wordI, packI_toNat _ _ _ _ (fieldsOf_op_lt w)]
  simp only [fieldsOf, nibble, Fin.ofNat, BitVec.toNat_ofNat]
  omega

/-! From the word to the command, row by row of R108. -/

/-- What a row lets through is well formed, and its word is made of the fields the row read. -/
theorem encode_of_decodeFields (f : Fields) : ∀ i, decodeFields f = .ok i →
    i.wellFormed = true ∧ (encode i = f.wordR ∨ encode i = f.wordI) := by
  obtain ⟨op, a, b, c, d, e, g, imm⟩ := f
  unfold decodeFields
  split
  -- A row's checks become equations for the reserved and code fields, and its command the only one it answers.
  all_goals
    simp only [reservedZero_ok, legalCode_ok, flagFieldsClear_ok, decodeRepr_eq_some, decodeInit_eq_some,
      decodePred_eq_some, decodeFlags_eq_some, List.forall_mem_cons, Except.ok.injEq, reduceCtorEq,
      and_imp, forall_exists_index, forall_eq', false_imp_iff, implies_true]
  all_goals
    intros
    subst_vars
  -- `XLI`, `XLUI`, `XADDI`: the rows of format I.
  case h_3 | h_4 | h_5 => exact ⟨rfl, .inr rfl⟩
  -- `GECFG`: its field check is what makes the command well formed.
  case h_84 => exact ⟨‹_›, .inl rfl⟩
  all_goals exact ⟨rfl, .inl rfl⟩

theorem encode_of_decode {w : Word} {i : Instr} (h : decode w = .ok i) : i.wellFormed = true ∧ encode i = w := by
  simpa using encode_of_decodeFields _ i h

/-! From the command to its word and back. -/

theorem decode_packR (op : Nat) (a b c d e g : Fin 16) (h : op < 256) :
    decode (packR op a b c d e g) = decodeFields ⟨op, a, b, c, d, e, g,
      BitVec.ofNat 16 (c.val * 2 ^ 12 + d.val * 2 ^ 8 + e.val * 2 ^ 4 + g.val)⟩ :=
  congrArg decodeFields (fieldsOf_packR op a b c d e g h)

theorem decode_packI (op : Nat) (a b : Fin 16) (imm : BitVec 16) (h : op < 256) :
    decode (packI op a b imm) = decodeFields { fieldsOf (packI op a b imm) with op, a, b, imm } := by
  obtain ⟨hop, ha, hb, himm⟩ := fieldsOf_packI op a b imm h
  rw [decode]
  generalize fieldsOf (packI op a b imm) = f at *
  subst hop ha hb himm
  rfl

/-- The decoder, run on the fields a command is packed from, takes the command's own row: there its reserved fields are
0, and each code is one its table knows. -/
theorem decode_encode {i : Instr} (h : i.wellFormed = true) : decode (encode i) = .ok i := by
  cases i with
  | xli | xlui | xaddi => exact decode_packI _ _ _ _ (by decide)
  | gecfg _ _ _ _ fl =>
    refine (decode_packR _ _ _ _ _ _ _ (by decide)).trans (reservedZero_ok.mpr ⟨by simp, ?_⟩)
    exact legalCode_ok.mpr ⟨fl, decodeFlags_code fl, flagFieldsClear_ok.mpr ⟨h, rfl⟩⟩
  | malloc _ _ _ rep ini => cases rep <;> cases ini <;> exact decode_packR _ _ _ _ _ _ _ (by decide)
  | mis _ _ prd | mnon _ _ prd => cases prd <;> exact decode_packR _ _ _ _ _ _ _ (by decide)
  | mcopy _ _ rep | mtrn _ _ rep | mrot _ _ rep | madd _ _ _ rep | madds _ _ _ rep | mmuls _ _ _ rep
  | mdivs _ _ _ rep | mmul _ _ _ rep | mhad _ _ _ rep | mpow _ _ _ rep =>
    cases rep <;> exact decode_packR _ _ _ _ _ _ _ (by decide)
  | _ => exact decode_packR _ _ _ _ _ _ _ (by decide)

/-- R110: a word decodes to a command exactly when it is that command's word. -/
theorem decode_eq_ok_iff {w : Word} {i : Instr} : decode w = .ok i ↔ i.wellFormed = true ∧ encode i = w := by
  refine ⟨encode_of_decode, ?_⟩
  rintro ⟨hi, rfl⟩
  exact decode_encode hi

end Sys2Proof

namespace Sys2Proof.Machine

/-- R109: a word that is no command, at the head of the queue, raises `IllegalCommand`. -/
theorem coreStep_illegal {s : State} {w : Word} {rest : List Word} {e : IllegalWord} (hq : s.queue = w :: rest)
    (hd : decode w = .error e) : coreStep s = .next (takeFault .illegalCommand s) := by
  simp [coreStep, hq, hd]

/-- Settles O4: by whether the word decodes, `decode_eq_ok_iff` saying which command's word it is, if any. -/
theorem everyWordIsOneCommandOrIllegal : Obligations.EveryWordIsOneCommandOrIllegal := by
  unfold Obligations.EveryWordIsOneCommandOrIllegal
  intro w
  cases hd : decode w with
  | ok i =>
    obtain ⟨hi, hw⟩ := decode_eq_ok_iff.mp hd
    refine .inl ⟨i, hi, hw, rfl, fun j hj hjw => ?_⟩
    have hdj : decode w = .ok j := decode_eq_ok_iff.mpr ⟨hj, hjw⟩
    exact Except.ok.inj (hdj.symm.trans hd)
  | error e =>
    refine .inr ⟨fun i hi hw => ?_, fun s rest hq =>
      ⟨_, coreStep_illegal hq hd, faultEntry_takeFault .illegalCommand s⟩⟩
    have hdi : decode w = .ok i := decode_eq_ok_iff.mpr ⟨hi, hw⟩
    rw [hd] at hdi
    contradiction

end Sys2Proof.Machine
end

section
/-! PROOFS. The field (41_gf256.md R140 to R147, R157). Every non-zero byte is `power 2 n` for one n below 255, and
`power 2 m` times b is b moved m times by `timesX`; so `EXP`, `LOG`, product, inverse, quotient and power become
arithmetic on exponents modulo 255. -/

namespace Sys2Proof.Machine

/-! `timesX` is linear. -/

theorem timesX_zero : timesX 0 = 0 := rfl

theorem timesX_eq_xor (a : Byte) : timesX a = a <<< 1 ^^^ (if a.getLsbD 7 then 0x1D else 0) := by
  rw [timesX]
  split
  · rfl
  · exact BitVec.xor_zero.symm

theorem timesX_xor (a b : Byte) : timesX (a ^^^ b) = timesX a ^^^ timesX b := by
  have hreduce : (if (a ^^^ b).getLsbD 7 then 0x1D else 0 : Byte) =
      (if a.getLsbD 7 then 0x1D else 0) ^^^ (if b.getLsbD 7 then 0x1D else 0) := by
    rw [BitVec.getLsbD_xor]
    cases a.getLsbD 7 <;> cases b.getLsbD 7 <;> rfl
  rw [timesX_eq_xor, timesX_eq_xor a, timesX_eq_xor b, hreduce, BitVec.shiftLeft_xor_distrib]
  ac_rfl

theorem timesX_iterate_xor (n : Nat) (a b : Byte) : timesX^[n] (a ^^^ b) = timesX^[n] a ^^^ timesX^[n] b := by
  induction n with
  | zero => rfl
  | succ n ih => simp only [Function.iterate_succ_apply', ih, timesX_xor]

theorem timesX_iterate_zero (n : Nat) : timesX^[n] 0 = 0 := Function.iterate_fixed timesX_zero n

/-! `polyMul`, one factor a power of x. -/

/-- One step of `polyMul`: a · x^k is added where b has the coefficient of x^k. -/
def addMultiple (a b acc : Byte) (k : Nat) : Byte := if b.getLsbD k then acc ^^^ timesX^[k] a else acc

theorem polyMul_eq_foldl (a b : Byte) : polyMul a b = (List.range 8).foldl (addMultiple a b) 0 := rfl

theorem addMultiple_timesX (a b acc : Byte) (k : Nat) :
    addMultiple (timesX a) b (timesX acc) k = timesX (addMultiple a b acc k) := by
  rw [addMultiple, addMultiple]
  split
  · rw [timesX_xor, ← Function.iterate_succ_apply, Function.iterate_succ_apply']
  · rfl

theorem addMultiple_zero (b acc : Byte) (k : Nat) : addMultiple 0 b acc k = acc := by
  rw [addMultiple, timesX_iterate_zero]
  exact ite_eq_right_iff.mpr fun _ => BitVec.xor_zero

theorem polyMul_zero_left (b : Byte) : polyMul 0 b = 0 := by
  simp only [polyMul_eq_foldl, funext₂ (addMultiple_zero b), List.foldl_fixed]

theorem polyMul_zero_right (a : Byte) : polyMul a 0 = 0 := by
  simp only [polyMul, BitVec.ofNat_eq_ofNat, BitVec.getLsbD_zero, Bool.false_eq_true, reduceIte, List.foldl_fixed]

theorem polyMul_one_left : ∀ b : Byte, polyMul 1 b = b := by decide +kernel

/-- Times x, each multiple of a that b's bits pick becomes the same multiple of a times x. -/
theorem polyMul_timesX_left (b : Byte) : Function.Commute (polyMul · b) timesX := fun a =>
  List.foldl_hom (init := 0) timesX (addMultiple_timesX a b)

theorem polyMul_iterate_one (n : Nat) (b : Byte) : polyMul (timesX^[n] 1) b = timesX^[n] b := by
  have h : polyMul (timesX^[n] 1) b = timesX^[n] (polyMul 1 b) := (polyMul_timesX_left b).iterate_right n 1
  rw [h, polyMul_one_left]

/-! Powers, by their exponents. -/

theorem power_succ (a : Byte) (n : Nat) : power a (n + 1) = polyMul (power a n) a :=
  Function.iterate_succ_apply' ..

theorem power_two_eq_iterate (n : Nat) : power 2 n = timesX^[n] 1 := by
  induction n with
  | zero => rfl
  | succ n ih => rw [power_succ, ih, polyMul_iterate_one, Function.iterate_succ_apply]; rfl

theorem polyMul_power_two_left (n : Nat) (b : Byte) : polyMul (power 2 n) b = timesX^[n] b := by
  rw [power_two_eq_iterate, polyMul_iterate_one]

theorem polyMul_power_two (m n : Nat) : polyMul (power 2 m) (power 2 n) = power 2 (m + n) := by
  rw [polyMul_power_two_left, power_two_eq_iterate, power_two_eq_iterate, Function.iterate_add_apply]

theorem power_power_two (l n : Nat) : power (power 2 l) n = power 2 (l * n) := by
  induction n with
  | zero => rfl
  | succ n ih => rw [power_succ, ih, polyMul_power_two, Nat.mul_succ]

theorem power_zero_succ (n : Nat) : power 0 (n + 1) = 0 := by
  rw [power_succ, polyMul_zero_right]

/-! The tables, read entry by entry. -/

theorem expRom_succ_of_lt : ∀ k, k < 254 → expRom (k + 1) = timesX (expRom k) := by decide +kernel

theorem expRom_wrap : timesX (expRom 254) = 1 := by decide +kernel

theorem expRom_ne_zero : ∀ k, k < 255 → expRom k ≠ 0 := by decide +kernel

theorem logRom_expRom : ∀ k, k < 255 → logRom (expRom k) = k := by decide +kernel

theorem expRom_logRom : ∀ a : Byte, a ≠ 0 → logRom a < 255 ∧ expRom (logRom a) = a := by decide +kernel

theorem expRom_repeats {k : Nat} (h : 255 ≤ k) (h' : k < 510) : expRom k = expRom (k - 255) := by
  rw [expRom, expRom, if_neg (by omega), if_pos (by omega)]

/-- `EXP` holds the powers of 2, as far as its first period goes. -/
theorem expRom_eq_power_of_lt {k : Nat} (h : k < 255) : expRom k = power 2 k := by
  rw [power_two_eq_iterate]
  induction k with
  | zero => rfl
  | succ k ih => rw [expRom_succ_of_lt k (by omega), ih (by omega), Function.iterate_succ_apply']

theorem timesX_periodic : Function.IsPeriodicPt timesX 255 1 := by
  have h : timesX^[255] 1 = timesX (expRom 254) := by
    rw [expRom_eq_power_of_lt (by decide), power_two_eq_iterate, ← Function.iterate_succ_apply' timesX]
  exact h.trans expRom_wrap

theorem power_two_mod (n : Nat) : power 2 (n % 255) = power 2 n := by
  simp only [power_two_eq_iterate, timesX_periodic.iterate_mod_apply]

/-- `EXP` holds the powers of 2. -/
theorem expRom_eq_power {k : Nat} (h : k < 510) : expRom k = power 2 k := by
  rcases Nat.lt_or_ge k 255 with hk | hk
  · exact expRom_eq_power_of_lt hk
  · rw [expRom_repeats hk h, expRom_eq_power_of_lt (by omega), ← power_two_mod k, Nat.mod_eq_sub_mod hk,
      Nat.mod_eq_of_lt (by omega)]

theorem logRom_power_two (n : Nat) : logRom (power 2 n) = n % 255 := by
  have hn : n % 255 < 255 := Nat.mod_lt _ (by decide)
  rw [← power_two_mod, ← expRom_eq_power_of_lt hn, logRom_expRom _ hn]

theorem power_two_ne_zero (n : Nat) : power 2 n ≠ 0 := by
  have hn : n % 255 < 255 := Nat.mod_lt _ (by decide)
  rw [← power_two_mod, ← expRom_eq_power_of_lt hn]
  exact expRom_ne_zero _ hn

theorem logRom_lt {a : Byte} (h : a ≠ 0) : logRom a < 255 := (expRom_logRom a h).1

theorem power_two_logRom {a : Byte} (h : a ≠ 0) : power 2 (logRom a) = a := by
  rw [← expRom_eq_power_of_lt (logRom_lt h), (expRom_logRom a h).2]

/-! Multiplication is the polynomial product, commutative, associative and distributive. -/

theorem gfMul_zero_left (a : Byte) : gfMul 0 a = 0 := if_pos (.inl rfl)

theorem gfMul_zero_right (a : Byte) : gfMul a 0 = 0 := if_pos (.inr rfl)

theorem gfMul_of_ne_zero {a b : Byte} (ha : a ≠ 0) (hb : b ≠ 0) : gfMul a b = power 2 (logRom a + logRom b) := by
  have hla := logRom_lt ha
  have hlb := logRom_lt hb
  rw [gfMul, if_neg (not_or.mpr ⟨ha, hb⟩), expRom_eq_power (by omega)]

theorem gfMul_eq_polyMul (a b : Byte) : gfMul a b = polyMul a b := by
  by_cases ha : a = 0
  · rw [ha, gfMul_zero_left, polyMul_zero_left]
  by_cases hb : b = 0
  · rw [hb, gfMul_zero_right, polyMul_zero_right]
  · rw [gfMul_of_ne_zero ha hb, ← polyMul_power_two, power_two_logRom ha, power_two_logRom hb]

theorem gfMul_comm (a b : Byte) : gfMul a b = gfMul b a := by
  simp only [gfMul, or_comm, Nat.add_comm]

theorem gfMul_one (a : Byte) : gfMul a 1 = a := by
  rw [gfMul_comm, gfMul_eq_polyMul, polyMul_one_left]

/-- A product with a non-zero factor is the other factor moved by `timesX`, which is linear. -/
theorem gfMul_eq_iterate {a : Byte} (ha : a ≠ 0) (b : Byte) : gfMul a b = timesX^[logRom a] b := by
  rw [← polyMul_power_two_left, power_two_logRom ha, gfMul_eq_polyMul]

theorem gfMul_eq_zero_iff {a b : Byte} : gfMul a b = 0 ↔ a = 0 ∨ b = 0 := by
  refine ⟨fun h => ?_, fun h => if_pos h⟩
  by_contra hab
  obtain ⟨ha, hb⟩ := not_or.mp hab
  exact power_two_ne_zero _ ((gfMul_of_ne_zero ha hb).symm.trans h)

theorem gfMul_assoc (a b c : Byte) : gfMul (gfMul a b) c = gfMul a (gfMul b c) := by
  by_cases ha : a = 0
  · simp only [ha, gfMul_zero_left]
  by_cases hb : b = 0
  · simp only [hb, gfMul_zero_left, gfMul_zero_right]
  · rw [gfMul_of_ne_zero ha hb, gfMul_eq_polyMul, polyMul_power_two_left, Function.iterate_add_apply,
      ← gfMul_eq_iterate hb, ← gfMul_eq_iterate ha]

theorem gfMul_gfAdd (a b c : Byte) : gfMul a (gfAdd b c) = gfAdd (gfMul a b) (gfMul a c) := by
  by_cases ha : a = 0
  · simp only [ha, gfMul_zero_left]; rfl
  · simp only [gfMul_eq_iterate ha, gfAdd, timesX_iterate_xor]

/-! Inverse and division. -/

theorem gfInvNz_eq_power (a : Byte) : gfInvNz a = power 2 (255 - logRom a) :=
  expRom_eq_power (by omega)

theorem gfMul_gfInvNz {a : Byte} (ha : a ≠ 0) : gfMul a (gfInvNz a) = 1 := by
  calc
    gfMul a (gfInvNz a) = polyMul (power 2 (logRom a)) (power 2 (255 - logRom a)) := by
      rw [gfMul_eq_polyMul, gfInvNz_eq_power, power_two_logRom ha]
    _ = power 2 255 := by rw [polyMul_power_two, Nat.add_sub_cancel' (logRom_lt ha).le]
    _ = 1 := (power_two_mod 255).symm

theorem gfMul_gfMul_gfInvNz (a : Byte) {b : Byte} (hb : b ≠ 0) : gfMul (gfMul a b) (gfInvNz b) = a := by
  rw [gfMul_assoc, gfMul_gfInvNz hb, gfMul_one]

theorem gfMul_eq_one_iff {a r : Byte} (ha : a ≠ 0) : gfMul a r = 1 ↔ gfInvNz a = r := by
  refine ⟨fun h => ?_, fun h => h ▸ gfMul_gfInvNz ha⟩
  rw [← gfMul_gfMul_gfInvNz r ha, gfMul_comm r a, h, gfMul_comm, gfMul_one]

theorem gfInv_of_ne_zero {a : Byte} (ha : a ≠ 0) : gfInv a = .ok (gfInvNz a) := if_neg ha

theorem gfInv_eq_ok_iff {a r : Byte} (ha : a ≠ 0) : gfInv a = .ok r ↔ gfMul a r = 1 := by
  rw [gfInv_of_ne_zero ha, Except.ok.injEq, gfMul_eq_one_iff ha]

theorem ne_zero_of_gfMul_eq_one {a r : Byte} (h : gfMul a r = 1) : r ≠ 0 := by
  rintro rfl
  rw [gfMul_zero_right] at h
  contradiction

theorem gfInv_involutive {a r : Byte} (ha : a ≠ 0) (h : gfInv a = .ok r) : gfInv r = .ok a := by
  have har : gfMul a r = 1 := (gfInv_eq_ok_iff ha).mp h
  rwa [gfInv_eq_ok_iff (ne_zero_of_gfMul_eq_one har), gfMul_comm]

/-- Below 255 + 255 the exponents' difference in `gfDivNz` is the sum that the inverse gives. -/
theorem gfDivNz_eq {b : Byte} (a : Byte) (hb : b ≠ 0) : gfDivNz a b = gfMul a (gfInvNz b) := by
  by_cases ha : a = 0
  · rw [gfDivNz, if_pos ha, ha, gfMul_zero_left]
  · have hla := logRom_lt ha
    have hlb := logRom_lt hb
    rw [gfDivNz, if_neg ha, expRom_eq_power (by omega), Nat.add_sub_assoc hlb.le, ← polyMul_power_two,
      power_two_logRom ha, ← gfInvNz_eq_power, gfMul_eq_polyMul]

theorem gfDiv_of_ne_zero {b : Byte} (a : Byte) (hb : b ≠ 0) : gfDiv a b = .ok (gfMul a (gfInvNz b)) := by
  rw [gfDiv, if_neg hb, gfDivNz_eq a hb]

theorem gfDiv_eq_gfMul_gfInv (a b : Byte) :
    gfDiv a b = match gfInv b with | .ok r => .ok (gfMul a r) | .error c => .error c := by
  by_cases hb : b = 0
  · rw [hb]; rfl
  · rw [gfDiv_of_ne_zero a hb, gfInv_of_ne_zero hb]

/-! Exponential, logarithm and power. -/

theorem gfExp_eq_power (n : Nat) : gfExp n = power 2 n := by
  have hn : n % 255 < 255 := Nat.mod_lt _ (by decide)
  rw [gfExp, expRom_eq_power_of_lt hn, power_two_mod]

theorem gfLog_of_ne_zero {a : Byte} (ha : a ≠ 0) : gfLog a = .ok (logRom a) := if_neg ha

theorem gfLog_eq_ok_iff {a : Byte} (ha : a ≠ 0) {n : Nat} : gfLog a = .ok n ↔ n < 255 ∧ power 2 n = a := by
  rw [gfLog_of_ne_zero ha, Except.ok.injEq]
  constructor
  · rintro rfl
    exact ⟨logRom_lt ha, power_two_logRom ha⟩
  · rintro ⟨hn, rfl⟩
    rw [logRom_power_two, Nat.mod_eq_of_lt hn]

theorem gfLog_gfExp (n : Nat) : gfLog (gfExp n) = .ok (n % 255) := by
  rw [gfExp_eq_power, gfLog_of_ne_zero (power_two_ne_zero n), logRom_power_two]

theorem power_eq_power_two {a : Byte} (ha : a ≠ 0) (n : Nat) : power a n = power 2 (logRom a * n) := by
  rw [← power_power_two, power_two_logRom ha]

theorem gfPow_eq_power (a : Byte) (n : Nat) : gfPow a n = power a n := by
  rw [gfPow]
  split
  next hn => rw [hn]; rfl
  next hn =>
    split
    next ha =>
      obtain ⟨k, rfl⟩ := Nat.exists_eq_succ_of_ne_zero hn
      rw [ha, power_zero_succ]
    next ha =>
      have hlt : logRom a * (n % 255) % 255 < 255 := Nat.mod_lt _ (by decide)
      rw [expRom_eq_power_of_lt hlt, Nat.mul_mod_mod, power_two_mod, power_eq_power_two ha]

theorem gfPow_add (a : Byte) (m n : Nat) : gfPow a (m + n) = gfMul (gfPow a m) (gfPow a n) := by
  simp only [gfPow_eq_power]
  induction n with
  | zero => exact (gfMul_one _).symm
  | succ n ih =>
    rw [← Nat.add_assoc, power_succ, power_succ, ih, ← gfMul_eq_polyMul, ← gfMul_eq_polyMul, gfMul_assoc]

theorem gfPow_255 {a : Byte} (ha : a ≠ 0) : gfPow a 255 = 1 := by
  rw [gfPow_eq_power, power_eq_power_two ha, ← power_two_mod, Nat.mul_mod_left]
  rfl

/-! The obligations of the family. -/

/-- Settles O24: the recurrence and `LOG`'s values are read off the two grids; that `LOG` undoes `EXP` makes `EXP`
one to one. -/
theorem romHoldsPowersAndLogs : Obligations.RomHoldsPowersAndLogs := by
  unfold Obligations.RomHoldsPowersAndLogs
  refine ⟨rfl, expRom_succ_of_lt, fun _ => expRom_repeats, fun i j hi hj h => ?_, expRom_logRom, rfl⟩
  rw [← logRom_expRom i hi, h, logRom_expRom j hj]

/-- Settles O25: `gfMul` adds the logarithms, and `polyMul` adds the exponents of powers of 2. -/
theorem fieldIsPolynomialArithmetic : Obligations.FieldIsPolynomialArithmetic := by
  unfold Obligations.FieldIsPolynomialArithmetic
  exact ⟨fun a b => ⟨rfl, BitVec.xor_self, BitVec.xor_zero, gfMul_one a, gfMul_eq_polyMul a b⟩,
    fun a ha => ⟨logRom a, logRom_lt ha, power_two_logRom ha⟩⟩

/-- Settles O26: a quotient is the product by the inverse, so the laws of division are those of `gfMul`. -/
theorem fieldLaws : Obligations.FieldLaws := by
  unfold Obligations.FieldLaws
  refine ⟨fun a => BitVec.xor_self, fun a b q hb => ⟨fun h => ?_, ?_, _, gfDiv_of_ne_zero a hb⟩,
    fun a ha => ⟨_, gfInv_of_ne_zero ha, gfMul_gfInvNz ha⟩,
    fun a b c => ⟨gfMul_comm a b, gfMul_assoc a b c, gfMul_one a, gfMul_gfAdd a b c⟩,
    fun a b => gfMul_eq_zero_iff,
    fun a ha => ⟨⟨_, gfLog_of_ne_zero ha, (gfExp_eq_power _).trans (power_two_logRom ha)⟩, gfPow_255 ha⟩,
    fun a m n _ => gfPow_add a m n⟩
  · have hq : gfMul a (gfInvNz b) = q := Except.ok.inj ((gfDiv_of_ne_zero a hb).symm.trans h)
    rw [← hq, gfMul_comm, gfMul_assoc, gfMul_comm _ b, gfMul_gfInvNz hb, gfMul_one]
  · rw [gfDiv_of_ne_zero _ hb, gfMul_gfMul_gfInvNz a hb]

/-- Settles O27: the laws of each function by its lemma above, the rules' examples by evaluation. -/
theorem fieldFunctions : Obligations.FieldFunctions := by
  unfold Obligations.FieldFunctions
  refine ⟨rfl, fun a r ha => ⟨gfInv_eq_ok_iff ha, gfInv_involutive ha⟩, ?_, ?_, ?_, ?_,
    gfDiv_eq_gfMul_gfInv, ?_, ?_, ?_, ?_, rfl,
    gfExp_eq_power, rfl, fun a n ha => gfLog_eq_ok_iff ha, gfLog_gfExp, ?_, ?_, ?_, ?_, ?_, ?_,
    gfPow_eq_power, ?_, ?_, ?_, ?_, rfl, rfl⟩
  all_goals decide +kernel

end Sys2Proof.Machine
end

section
/-! PROOFS. The matrix predicates (45_matrix_arith.md R280 to R283): `predHolds` decides R282's table, and `MIS` and
`MNON` write its answer and the complement. -/

namespace Sys2Proof.Machine

/-! R282's table. -/

theorem allElems_iff (m : ByteMatrix) (f : Nat → Nat → Byte → Bool) :
    m.allElems f = true ↔ ∀ i j, i < m.rows → j < m.cols → f i j (m.e i j) = true := by
  simp only [ByteMatrix.allElems, List.all_eq_true, List.mem_range]
  exact forall_congr' fun i => forall_comm

/-- The computed table agrees with R282's. A condition on the position that guards a test is computed as a
disjunction. -/
theorem predHolds_iff (prd : PredCode) (m : ByteMatrix) : predHolds prd m = true ↔ PredMeans prd m := by
  cases prd with
  | zero | nonzero | one => simp [predHolds, PredMeans, allElems_iff]
  | identity | symmetric => simp [predHolds, PredMeans, allElems_iff, identityAt]
  | diagonal | upperTriangular | lowerTriangular =>
    simp [predHolds, PredMeans, allElems_iff, or_iff_not_imp_left]

/-- R283: the tag plays no part. -/
theorem predMeans_repr (prd : PredCode) (m : ByteMatrix) (rep : MRepr) :
    PredMeans prd { m with repr := rep } ↔ PredMeans prd m := by
  cases prd <;> rfl

/-- Over no elements every quantifier of R282 holds; what is left is the shape that two predicates ask for. -/
theorem predMeans_of_empty {m : ByteMatrix} (h : m.rows * m.cols = 0) (prd : PredCode) :
    PredMeans prd m ↔ (prd = .identity ∨ prd = .symmetric → m.rows = m.cols) := by
  have noElement (i j : Nat) (hi : i < m.rows) (hj : j < m.cols) : False :=
    (Nat.mul_pos (Nat.zero_lt_of_lt hi) (Nat.zero_lt_of_lt hj)).ne' h
  cases prd with
  | identity | symmetric =>
    exact ⟨fun ⟨square, _⟩ _ => square, fun square => ⟨square (by simp), fun i j hi hj => (noElement i j hi hj).elim⟩⟩
  | _ => exact ⟨fun _ => by simp, fun _ i j hi hj => (noElement i j hi hj).elim⟩

/-! The two commands (R280, R281). -/

theorem mis_completes {s : State} {a : MSlot} {m : ByteMatrix} (h : s.getM a = some m) (x : XReg) (prd : PredCode) :
    Completes (.mis x a prd) [.x x] (Wrote x (if predHolds prd m then 1 else 0)) s :=
  completes_setX (congrArg (finish s) (withM_some h _)) fun _ => id

theorem mnon_completes {s : State} {a : MSlot} {m : ByteMatrix} (h : s.getM a = some m) (x : XReg) (prd : PredCode) :
    Completes (.mnon x a prd) [.x x] (Wrote x (if predHolds prd m then 0 else 1)) s :=
  completes_setX (congrArg (finish s) (withM_some h _)) fun _ => id

/-- Settles O45: both commands write what `predHolds` answers, and `predHolds` decides R282's table. -/
theorem predicatesAsTabled : Obligations.PredicatesAsTabled := by
  unfold Obligations.PredicatesAsTabled
  refine ⟨fun s x a prd m h => ?_, predMeans_repr, fun prd m hempty => predMeans_of_empty hempty prd⟩
  have his := mis_completes h x prd
  have hnon := mnon_completes h x prd
  rw [← predHolds_iff]
  refine ⟨fun holds => ?_, fun fails => ?_⟩
  · rw [if_pos holds] at his hnon
    exact ⟨his, hnon⟩
  · rw [if_neg fails] at his hnon
    exact ⟨his, hnon⟩

end Sys2Proof.Machine
end

section
/-! PROOFS. The interrupt output (60_exceptions.md R383): the bits of the words the host reads at `STATUS` and `CTRL`
(10_state.md R41, R42) are the flags and the enables that `IRQ` is made of. -/

namespace Sys2Proof.Machine

/-! The two words, bit by bit. -/

/-- R42: the six defined bits of `STATUS`, from bit 0 up. -/
theorem State.statusWord_getLsbD (s : State) (k : Fin 6) :
    s.statusWord.getLsbD k =
      ![s.busy, s.status.fault, s.status.done, s.status.signal, s.status.overrun, s.status.accerr] k := by
  unfold State.statusWord
  generalize s.busy = busy
  obtain ⟨fault, done, signal, overrun, accerr⟩ := s.status
  revert busy fault done signal overrun accerr k
  decide

/-- R41: the three enables of `CTRL`, from bit 0 up. -/
theorem Ctrl.word_getLsbD (c : Ctrl) (k : Fin 3) : c.word.getLsbD k = ![c.ieDone, c.ieFault, c.ieSignal] k := by
  obtain ⟨ieDone, ieFault, ieSignal⟩ := c
  revert ieDone ieFault ieSignal k
  decide

/-! The interrupt output. -/

/-- R383: each flag's bit of `STATUS` with its enable's bit of `CTRL`. -/
theorem State.irq_eq_words (s : State) :
    s.irq = ((s.statusWord.getLsbD 2 && s.ctrl.word.getLsbD 0) || (s.statusWord.getLsbD 1 && s.ctrl.word.getLsbD 1) ||
      (s.statusWord.getLsbD 3 && s.ctrl.word.getLsbD 2)) := by
  have done : s.statusWord.getLsbD 2 = s.status.done := s.statusWord_getLsbD 2
  have fault : s.statusWord.getLsbD 1 = s.status.fault := s.statusWord_getLsbD 1
  have signal : s.statusWord.getLsbD 3 = s.status.signal := s.statusWord_getLsbD 3
  have ieDone : s.ctrl.word.getLsbD 0 = s.ctrl.ieDone := s.ctrl.word_getLsbD 0
  have ieFault : s.ctrl.word.getLsbD 1 = s.ctrl.ieFault := s.ctrl.word_getLsbD 1
  have ieSignal : s.ctrl.word.getLsbD 2 = s.ctrl.ieSignal := s.ctrl.word_getLsbD 2
  rw [done, fault, signal, ieDone, ieFault, ieSignal]
  rfl

/-- Settles O16: a read of `STATUS` or `CTRL` answers the word whose bits make up `IRQ`. -/
theorem irqFollowsStatusAndEnables : Obligations.IrqFollowsStatusAndEnables := by
  unfold Obligations.IrqFollowsStatusAndEnables
  refine ⟨rfl, fun s during => ?_⟩
  have readStatus : (readWindow 0x00C during s).1 = s.statusWord := rfl
  have readCtrl : (readWindow 0x008 during s).1 = s.ctrl.word := rfl
  rw [readStatus, readCtrl]
  exact s.irq_eq_words

end Sys2Proof.Machine
end

section
/-! PROOFS. What executing a command can do, said once for all commands (60_exceptions.md R370, R380; 10_state.md R33):
its checks raise only causes of its row, and what it commits stays inside the parts of its rule and keeps the
invariant. -/

namespace Sys2Proof.Machine

/-! What the invariant says of one slot. -/

theorem Inv.matrix {s : State} (h : Inv s) {k : MSlot} {m : ByteMatrix} (hm : s.getM k = some m) :
    m.wf = true ∧ m.rows ≤ s.params.mMaxDim ∧ m.cols ≤ s.params.mMaxDim :=
  ((objectsWf_iff s).mp h.objects).1 k m hm

theorem Inv.vector {s : State} (h : Inv s) {k : VSlot} {v : List Byte} (hv : s.getV k = some v) :
    v.length ≤ s.params.vMaxLen :=
  ((objectsWf_iff s).mp h.objects).2.1 k v hv

theorem Inv.indexList {s : State} (h : Inv s) {k : PSlot} {p : List Word} (hp : s.getP k = some p) :
    p.length ≤ s.params.pMaxLen :=
  ((objectsWf_iff s).mp h.objects).2.2 k p hp

/-- R5: a row or a column of a matrix fits into a vector. -/
theorem Inv.dim_le_vMaxLen {s : State} (h : Inv s) : s.params.mMaxDim ≤ s.params.vMaxLen := by
  have := h.params
  simp only [Params.valid, decide_eq_true_eq] at this
  exact this.2.2.1

/-- The invariant of a state whose objects, register cell, context and solver are accounted for, all else being kept. -/
theorem Inv.of_frame {parts : List Part} {s t : State} (h : Inv s) (hf : Frame parts s t) (hq : t.queue = s.queue)
    (hx : t.x[0] = 0) (ho : t.objectsWf = true) (hg : t.ge.wf = true) (hs : t.sv.wf s.params = true)
    (hsol : t.sv.state = .solved → solveRows t.sv.l.toNat t.sv.t.toNat t.sv.rows = some t.sv.sol) : Inv t where
  params := hf.params ▸ h.params
  hardwired := hx
  objects := ho
  context := hg
  solver := hf.params ▸ hs
  solution := hsol
  queue := by rw [hq, hf.params]; exact h.queue
  faulted := by rw [hq, hf.fault]; exact h.faulted
  record := by rw [hf.cause, hf.faultCmd, hf.faultSeq]; exact h.record

/-! What a command commits. -/

/-- t is s with writes to `parts` only, the command not yet retired, and the invariant kept. -/
structure Commits (parts : List Part) (s t : State) : Prop where
  frame : Frame parts s t
  queue : t.queue = s.queue
  cmdcnt : t.cmdcnt = s.cmdcnt
  done : t.status.done = s.status.done
  inv : Inv s → Inv t

theorem frame_refl (parts : List Part) (s : State) : Frame parts s s := by
  constructor <;> intros <;> rfl

theorem commits_refl (parts : List Part) (s : State) : Commits parts s s :=
  ⟨frame_refl parts s, rfl, rfl, rfl, id⟩

theorem Frame.retire {parts : List Part} {s t : State} (h : Frame parts s t) : Frame parts s (retire t) :=
  { h with }

theorem Commits.retires {parts : List Part} {s t : State} (h : Commits parts s t) : Retires s (retire t) where
  queue := by simp [h.queue]
  cmdcnt := by simp [h.cmdcnt]
  done := by simp [h.done, h.queue]

theorem frame_of_retire {parts : List Part} {s t : State} (h : Frame parts s (retire t)) : Frame parts s t :=
  { h with }

theorem commits_setX (s : State) (d : XReg) (w : Word) : Commits [.x d] s (s.setX d w) := by
  have hf := frame_of_retire (frame_setX s d w)
  refine ⟨hf, by simp, by simp, by simp, fun h => h.of_frame hf (by simp) ?_ (by simp [h.objects])
    (by simp [h.context]) (by simp [h.solver]) (by simpa using h.solution)⟩
  unfold State.setX
  split
  · exact h.hardwired
  next hd =>
    have hne : d.val ≠ 0 := fun e => hd (Fin.ext e)
    simp [hne, h.hardwired]

theorem commits_setM {s : State} {o : Option ByteMatrix} (d : MSlot)
    (ho : Inv s → ∀ m, o = some m → m.wf = true ∧ m.rows ≤ s.params.mMaxDim ∧ m.cols ≤ s.params.mMaxDim) :
    Commits [.m d] s (s.setM d o) := by
  have hf := frame_of_retire (frame_setM s d o)
  exact ⟨hf, rfl, rfl, rfl, fun h => h.of_frame hf rfl h.hardwired (objectsWf_setM h.objects d o (ho h)) h.context
    h.solver h.solution⟩

theorem commits_setV {s : State} {o : Option (List Byte)} (d : VSlot)
    (ho : Inv s → ∀ v, o = some v → v.length ≤ s.params.vMaxLen) : Commits [.v d] s (s.setV d o) := by
  have hf := frame_of_retire (frame_setV s d o)
  exact ⟨hf, rfl, rfl, rfl, fun h => h.of_frame hf rfl h.hardwired (objectsWf_setV h.objects d o (ho h)) h.context
    h.solver h.solution⟩

theorem commits_setP {s : State} {o : Option (List Word)} (d : PSlot)
    (ho : Inv s → ∀ p, o = some p → p.length ≤ s.params.pMaxLen) : Commits [.p d] s (s.setP d o) := by
  have hf := frame_of_retire (frame_setP s d o)
  exact ⟨hf, rfl, rfl, rfl, fun h => h.of_frame hf rfl h.hardwired (objectsWf_setP h.objects d o (ho h)) h.context
    h.solver h.solution⟩

theorem commits_newMatrix {s : State} (d : MSlot) {r c : Nat} (rep : MRepr) (f : Nat → Nat → Byte)
    (h : Inv s → r ≤ s.params.mMaxDim ∧ c ≤ s.params.mMaxDim) :
    Commits [.m d] s (s.setM d (some (newMatrix r c rep f))) :=
  commits_setM d fun hi m hm => by cases hm; exact ⟨newMatrix_wf .., h hi⟩

theorem commits_withElems {s : State} {d : MSlot} {m : ByteMatrix} (hm : s.getM d = some m)
    (f : Nat → Nat → Byte) : Commits [.m d] s (s.setM d (some (m.withElems f))) :=
  commits_newMatrix d _ f fun hi => (hi.matrix hm).2

theorem commits_newVector {s : State} (d : VSlot) {n : Nat} (f : Nat → Byte) (h : Inv s → n ≤ s.params.vMaxLen) :
    Commits [.v d] s (s.setV d (some (newVector n f))) :=
  commits_setV d fun hi v hv => by cases hv; simpa using h hi

theorem commits_newIndex {s : State} (d : PSlot) {n : Nat} (f : Nat → Word) (h : Inv s → n ≤ s.params.pMaxLen) :
    Commits [.p d] s (s.setP d (some (newIndex n f))) :=
  commits_setP d fun hi v hv => by cases hv; simpa using h hi

theorem commits_freeM (s : State) (d : MSlot) : Commits [.m d] s (s.setM d none) := commits_setM d fun _ => nofun
theorem commits_freeV (s : State) (d : VSlot) : Commits [.v d] s (s.setV d none) := commits_setV d fun _ => nofun
theorem commits_freeP (s : State) (d : PSlot) : Commits [.p d] s (s.setP d none) := commits_setP d fun _ => nofun

theorem commits_signal (s : State) :
    Commits [.signal] s { s with status := { s.status with signal := true } } := by
  have hf : Frame [.signal] s { s with status := { s.status with signal := true } } := by
    constructor <;> simp <;> intros <;> rfl
  exact ⟨hf, rfl, rfl, rfl, fun h => { h with }⟩

theorem commits_ge {s : State} {g : GeContext} (hg : g.wf = true) : Commits [.ge] s { s with ge := g } := by
  have hf : Frame [.ge] s { s with ge := g } := by
    constructor <;> simp <;> intros <;> rfl
  exact ⟨hf, rfl, rfl, rfl, fun h => { h with context := hg }⟩

theorem commits_sv {s : State} {sv : Solver} (hwf : Inv s → sv.wf s.params = true)
    (hsol : Inv s → sv.state = .solved → solveRows sv.l.toNat sv.t.toNat sv.rows = some sv.sol) :
    Commits [.sv] s { s with sv := sv } := by
  have hf : Frame [.sv] s { s with sv := sv } := by
    constructor <;> simp <;> intros <;> rfl
  exact ⟨hf, rfl, rfl, rfl, fun h => { h with solver := hwf h, solution := hsol h }⟩

end Sys2Proof.Machine
end

section
/-! PROOFS. The parts of a GE context (46_gauss.md R300, R301, R304): what the context check hands on, when it raises
which cause, and what writing the parts back changes. -/

namespace Sys2Proof.Machine

/-! The optional parts. -/

/-- The part a flag and a slot name: nothing when the flag is clear or the slot is `Unallocated`. -/
def presentPart {α : Type} (has : Bool) (slot : Option α) : Option α := if has then slot else none

theorem withOptM_some {s : State} {has : Bool} {k : MSlot} {o : Option ByteMatrix}
    (ho : o = presentPart has (s.getM k)) (hp : o.isSome = has) (f : Option ByteMatrix → Result) :
    withOptM s has k f = f o := by
  subst ho
  cases has with
  | false => rfl
  | true =>
    obtain ⟨m, hm⟩ := Option.isSome_iff_exists.mp hp
    simp only [presentPart, if_true] at hm ⊢
    simp [withOptM, withM, hm]

theorem withOptP_some {s : State} {has : Bool} {k : PSlot} {o : Option (List Word)}
    (ho : o = presentPart has (s.getP k)) (hp : o.isSome = has) (f : Option (List Word) → Result) :
    withOptP s has k f = f o := by
  subst ho
  cases has with
  | false => rfl
  | true =>
    obtain ⟨p, hp⟩ := Option.isSome_iff_exists.mp hp
    simp only [presentPart, if_true] at hp ⊢
    simp [withOptP, withP, hp]

theorem withOptM_none {s : State} {k : MSlot} (h : s.getM k = none) (f : Option ByteMatrix → Result) :
    withOptM s true k f = .error .unallocatedSlot := withM_none h _

theorem withOptP_none {s : State} {k : PSlot} (h : s.getP k = none) (f : Option (List Word) → Result) :
    withOptP s true k f = .error .unallocatedSlot := withP_none h _

/-! A context whose parts are all allocated and fit. -/

/-- t holds the parts that g names, all allocated. -/
structure PartsAllocated (s : State) (g : GeContext) (t : Augmented) : Prop where
  a : s.getM g.a = some t.a
  d : t.d = presentPart g.hasD (s.getM g.d)
  pr : t.pr = presentPart g.hasPR (s.getP g.pr)
  pc : t.pc = presentPart g.hasPC (s.getP g.pc)
  dPresent : t.d.isSome = g.hasD
  prPresent : t.pr.isSome = g.hasPR
  pcPresent : t.pc.isSome = g.hasPC

/-- The present parts fit A (R301 (3)). -/
structure Augmented.Fits (t : Augmented) : Prop where
  dRows : ∀ o, t.d = some o → o.rows = t.a.rows
  prLength : ∀ o, t.pr = some o → o.length = t.a.rows
  pcLength : ∀ o, t.pc = some o → o.length = t.a.cols

/-- The shape checks of R301 (3), on the parts. -/
def fitsOr (t : Augmented) (k : Result) : Result :=
  require (t.d.all fun o => o.rows == t.a.rows) .dimensionMismatch <|
  require (t.pr.all fun o => o.length == t.a.rows) .dimensionMismatch <|
  require (t.pc.all fun o => o.length == t.a.cols) .dimensionMismatch k

theorem withParts_allocated {s : State} {g : GeContext} {t : Augmented} (h : PartsAllocated s g t)
    (f : Augmented → Result) : withParts s g f = fitsOr t (f t) := by
  simp only [withParts, withM_some h.a, withOptM_some h.d h.dPresent, withOptP_some h.pr h.prPresent,
    withOptP_some h.pc h.pcPresent]
  rfl

theorem fitsOr_fits {t : Augmented} (h : t.Fits) (k : Result) : fitsOr t k = k := by
  have hd : (t.d.all fun o => o.rows == t.a.rows) = true := by
    simpa [Option.all_eq_true] using h.dRows
  have hpr : (t.pr.all fun o => o.length == t.a.rows) = true := by
    simpa [Option.all_eq_true] using h.prLength
  have hpc : (t.pc.all fun o => o.length == t.a.cols) = true := by
    simpa [Option.all_eq_true] using h.pcLength
  simp [fitsOr, hd, hpr, hpc]

theorem fitsOr_misfit {t : Augmented} (h : ¬ t.Fits) (k : Result) : fitsOr t k = .error .dimensionMismatch := by
  have hbad : ((t.d.all fun o => o.rows == t.a.rows) && (t.pr.all fun o => o.length == t.a.rows) &&
      (t.pc.all fun o => o.length == t.a.cols)) = false := by
    refine Bool.eq_false_iff.mpr fun hall => h ?_
    simp only [Bool.and_eq_true, Option.all_eq_true, beq_iff_eq] at hall
    obtain ⟨⟨hd, hpr⟩, hpc⟩ := hall
    exact ⟨hd, hpr, hpc⟩
  rw [fitsOr]
  revert hbad
  cases t.d.all _ <;> cases t.pr.all _ <;> cases t.pc.all _ <;> simp

theorem withParts_fits {s : State} {g : GeContext} {t : Augmented} (h : PartsAllocated s g t) (hf : t.Fits)
    (f : Augmented → Result) : withParts s g f = f t := by
  rw [withParts_allocated h, fitsOr_fits hf]

/-- Either some part is `Unallocated`, or all are there. -/
theorem partsAllocated_or (s : State) (g : GeContext) :
    (s.getM g.a = none ∨ (g.hasD = true ∧ s.getM g.d = none) ∨ (g.hasPR = true ∧ s.getP g.pr = none) ∨
      (g.hasPC = true ∧ s.getP g.pc = none)) ∨ ∃ t, PartsAllocated s g t := by
  by_cases hbad : s.getM g.a = none ∨ (g.hasD = true ∧ s.getM g.d = none) ∨ (g.hasPR = true ∧ s.getP g.pr = none) ∨
      (g.hasPC = true ∧ s.getP g.pc = none)
  · exact .inl hbad
  · simp only [not_or, not_and] at hbad
    obtain ⟨ha, hd, hpr, hpc⟩ := hbad
    obtain ⟨a, ha⟩ := Option.ne_none_iff_exists'.mp ha
    refine .inr ⟨⟨a, presentPart g.hasD (s.getM g.d), presentPart g.hasPR (s.getP g.pr),
      presentPart g.hasPC (s.getP g.pc)⟩, ha, rfl, rfl, rfl, ?_, ?_, ?_⟩
    · cases h : g.hasD <;> simp_all [presentPart, Option.isSome_iff_ne_none]
    · cases h : g.hasPR <;> simp_all [presentPart, Option.isSome_iff_ne_none]
    · cases h : g.hasPC <;> simp_all [presentPart, Option.isSome_iff_ne_none]

/-- The check of an optional matrix part either raises `UnallocatedSlot` or finds the part allocated. -/
theorem withOptM_cases (s : State) (has : Bool) (k : MSlot) (f : Option ByteMatrix → Result) :
    withOptM s has k f = .error .unallocatedSlot ∨
      (¬ (has = true ∧ s.getM k = none) ∧ ∃ o, withOptM s has k f = f o) := by
  cases has with
  | false => exact .inr ⟨nofun, none, rfl⟩
  | true =>
    cases hk : s.getM k with
    | none => exact .inl (withOptM_none hk f)
    | some m => exact .inr ⟨nofun, some m, withM_some hk _⟩

/-- The check of an optional index-list part, likewise. -/
theorem withOptP_cases (s : State) (has : Bool) (k : PSlot) (f : Option (List Word) → Result) :
    withOptP s has k f = .error .unallocatedSlot ∨
      (¬ (has = true ∧ s.getP k = none) ∧ ∃ o, withOptP s has k f = f o) := by
  cases has with
  | false => exact .inr ⟨nofun, none, rfl⟩
  | true =>
    cases hk : s.getP k with
    | none => exact .inl (withOptP_none hk f)
    | some p => exact .inr ⟨nofun, some p, withP_some hk _⟩

/-- R301 (2): a present part that is `Unallocated`. -/
theorem withParts_unallocated {s : State} {g : GeContext}
    (h : s.getM g.a = none ∨ (g.hasD = true ∧ s.getM g.d = none) ∨ (g.hasPR = true ∧ s.getP g.pr = none) ∨
      (g.hasPC = true ∧ s.getP g.pc = none)) (f : Augmented → Result) :
    withParts s g f = .error .unallocatedSlot := by
  cases ha : s.getM g.a with
  | none => exact withM_none ha _
  | some a =>
    refine (withM_some ha _).trans ?_
    obtain hd | ⟨hd, d, he⟩ := withOptM_cases s g.hasD g.d _
    · exact hd
    refine he.trans ?_
    obtain hpr | ⟨hpr, pr, he⟩ := withOptP_cases s g.hasPR g.pr _
    · exact hpr
    refine he.trans ?_
    obtain hpc | ⟨hpc, pc, he⟩ := withOptP_cases s g.hasPC g.pc _
    · exact hpc
    · obtain h | h | h | h := h
      · rw [ha] at h
        contradiction
      · exact absurd h hd
      · exact absurd h hpr
      · exact absurd h hpc

/-- The three ways R301 (2) and (3) can go. -/
theorem withParts_cases (s : State) (g : GeContext) (f : Augmented → Result) :
    withParts s g f = .error .unallocatedSlot ∨ withParts s g f = .error .dimensionMismatch ∨
      ∃ t, PartsAllocated s g t ∧ t.Fits ∧ withParts s g f = f t := by
  obtain h | ⟨t, h⟩ := partsAllocated_or s g
  · exact .inl (withParts_unallocated h f)
  · by_cases hf : t.Fits
    · exact .inr (.inr ⟨t, h, hf, withParts_fits h hf f⟩)
    · exact .inr (.inl ((withParts_allocated h f).trans (fitsOr_misfit hf _)))

theorem withContext_valid {s : State} (h : s.ge.valid = true) (f : Augmented → Result) :
    withContext s f = withParts s s.ge f := by rw [withContext, h, require_true]

theorem withContext_invalid {s : State} (h : s.ge.valid = false) (f : Augmented → Result) :
    withContext s f = .error .illegalState := by rw [withContext, h, require_false]

/-! Writing the parts back (R300). -/

theorem putContext_eq (s : State) (t : Augmented) : s.putContext t =
    { s with m := (s.putContext t).m, p := (s.putContext t).p } := by
  unfold State.putContext
  cases t.d <;> cases t.pr <;> cases t.pc <;> rfl

theorem putContext_getM (s : State) (t : Augmented) (k : MSlot) : (s.putContext t).getM k =
    if t.d.isSome = true ∧ k = s.ge.d then t.d else if k = s.ge.a then some t.a else s.getM k := by
  unfold State.putContext
  cases t.d <;> cases t.pr <;> cases t.pc <;> simp [State.getM_setM]

theorem putContext_getP (s : State) (t : Augmented) (k : PSlot) : (s.putContext t).getP k =
    if t.pc.isSome = true ∧ k = s.ge.pc then t.pc else if t.pr.isSome = true ∧ k = s.ge.pr then t.pr
      else s.getP k := by
  unfold State.putContext
  cases t.d <;> cases t.pr <;> cases t.pc <;> simp [State.getP_setP]

end Sys2Proof.Machine
end

section
/-! PROOFS. In-place changes of a GE context's parts (46_gauss.md R300, R302): every row and column operation, and the
whole elimination, keeps the shapes and the tags, so writing the parts back commits to the parts they name. -/

namespace Sys2Proof.Machine

/-- m' stands where m stood: the same shape and tag, and canonical if m was. -/
structure SameForm (m m' : ByteMatrix) : Prop where
  rows : m'.rows = m.rows
  cols : m'.cols = m.cols
  repr : m'.repr = m.repr
  wf : m.wf = true → m'.wf = true

theorem SameForm.refl (m : ByteMatrix) : SameForm m m := ⟨rfl, rfl, rfl, id⟩

theorem SameForm.trans {m n k : ByteMatrix} (h : SameForm m n) (h' : SameForm n k) : SameForm m k :=
  ⟨h'.rows.trans h.rows, h'.cols.trans h.cols, h'.repr.trans h.repr, h'.wf ∘ h.wf⟩

theorem sameForm_withElems (m : ByteMatrix) (f : Nat → Nat → Byte) : SameForm m (m.withElems f) :=
  ⟨rfl, rfl, rfl, fun _ => withElems_wf m f⟩

/-- p' stands where p stood. -/
def SameLength (p p' : List Word) : Prop := p'.length = p.length

theorem SameLength.refl (p : List Word) : SameLength p p := rfl

theorem SameLength.trans {p q r : List Word} (h : SameLength p q) (h' : SameLength q r) : SameLength p r :=
  Eq.trans h' h

/-- Each part of u stands where the part of t stood. -/
structure Augmented.InPlace (t u : Augmented) : Prop where
  a : SameForm t.a u.a
  d : Option.Rel SameForm t.d u.d
  pr : Option.Rel SameLength t.pr u.pr
  pc : Option.Rel SameLength t.pc u.pc

theorem optionRel_refl {α : Type} {R : α → α → Prop} (h : ∀ a, R a a) : ∀ o : Option α, Option.Rel R o o
  | none => .none
  | some a => .some (h a)

theorem optionRel_map {α : Type} {R : α → α → Prop} {f : α → α} (h : ∀ a, R a (f a)) :
    ∀ o : Option α, Option.Rel R o (o.map f)
  | none => .none
  | some a => .some (h a)

theorem optionRel_trans {α : Type} {R : α → α → Prop} (h : ∀ a b c, R a b → R b c → R a c) {o p q : Option α}
    (hop : Option.Rel R o p) (hpq : Option.Rel R p q) : Option.Rel R o q := by
  cases hop with
  | none => exact hpq
  | some hab =>
    cases hpq with
    | some hbc => exact .some (h _ _ _ hab hbc)

theorem Augmented.InPlace.refl (t : Augmented) : t.InPlace t :=
  ⟨.refl _, optionRel_refl .refl _, optionRel_refl .refl _, optionRel_refl .refl _⟩

theorem Augmented.InPlace.trans {t u v : Augmented} (h : t.InPlace u) (h' : u.InPlace v) : t.InPlace v :=
  ⟨h.a.trans h'.a, optionRel_trans (fun _ _ _ => .trans) h.d h'.d,
    optionRel_trans (fun _ _ _ => .trans) h.pr h'.pr,
    optionRel_trans (fun _ _ _ => .trans) h.pc h'.pc⟩

theorem sameLength_swapEntries (i j : Nat) (p : List Word) : SameLength p (swapEntries i j p) :=
  newIndex_length ..

theorem inPlace_swapRows (i j : Nat) (t : Augmented) : t.InPlace (t.swapRows i j) :=
  ⟨sameForm_withElems .., optionRel_map (fun _ => sameForm_withElems ..) _,
    optionRel_map (sameLength_swapEntries i j) _, optionRel_refl .refl _⟩

theorem inPlace_swapCols (i j : Nat) (t : Augmented) : t.InPlace (t.swapCols i j) :=
  ⟨sameForm_withElems .., optionRel_refl .refl _, optionRel_refl .refl _,
    optionRel_map (sameLength_swapEntries i j) _⟩

theorem inPlace_scaleRow (r : Nat) (β : Byte) (t : Augmented) : t.InPlace (t.scaleRow r β) :=
  ⟨sameForm_withElems .., optionRel_map (fun _ => sameForm_withElems ..) _, optionRel_refl .refl _,
    optionRel_refl .refl _⟩

theorem inPlace_axpyRows (r : Nat) (f : Nat → Byte) (t : Augmented) : t.InPlace (t.axpyRows r f) :=
  ⟨sameForm_withElems .., optionRel_map (fun _ => sameForm_withElems ..) _, optionRel_refl .refl _,
    optionRel_refl .refl _⟩

theorem inPlace_reduceColumn (base : Nat) (st : Augmented × Nat) (c : Nat) :
    st.1.InPlace (reduceColumn base st c).1 := by
  unfold reduceColumn
  split
  · exact .refl _
  · exact ((inPlace_swapRows ..).trans (inPlace_scaleRow ..)).trans (inPlace_axpyRows ..)

theorem inPlace_foldl_reduceColumn (base : Nat) (cols : List Nat) (st : Augmented × Nat) :
    st.1.InPlace (cols.foldl (reduceColumn base) st).1 := by
  induction cols generalizing st with
  | nil => exact .refl _
  | cons c cols ih => exact (inPlace_reduceColumn base st c).trans (ih _)

theorem inPlace_gaussJordan (base : Nat) (cols : List Nat) (t : Augmented) :
    t.InPlace (gaussJordan base cols t).1 := inPlace_foldl_reduceColumn base cols (t, base)

/-! What the elimination leaves alone. -/

theorem reduceColumn_pc (base : Nat) (st : Augmented × Nat) (c : Nat) :
    (reduceColumn base st c).1.pc = st.1.pc := by
  unfold reduceColumn
  split <;> rfl

theorem gaussJordan_pc (base : Nat) (cols : List Nat) (t : Augmented) : (gaussJordan base cols t).1.pc = t.pc := by
  unfold gaussJordan
  suffices h : ∀ st : Augmented × Nat, (cols.foldl (reduceColumn base) st).1.pc = st.1.pc from h (t, base)
  induction cols with
  | nil => exact fun _ => rfl
  | cons c cols ih => exact fun st => (ih _).trans (reduceColumn_pc base st c)

/-! Writing the parts back. -/

/-- A part that was found present is its slot's. -/
theorem PartsAllocated.d_eq {s : State} {g : GeContext} {t : Augmented} (h : PartsAllocated s g t)
    (hd : t.d.isSome = true) : t.d = s.getM g.d := by
  rw [h.d, presentPart, ← h.dPresent, if_pos hd]

theorem PartsAllocated.pr_eq {s : State} {g : GeContext} {t : Augmented} (h : PartsAllocated s g t)
    (hp : t.pr.isSome = true) : t.pr = s.getP g.pr := by
  rw [h.pr, presentPart, ← h.prPresent, if_pos hp]

theorem PartsAllocated.pc_eq {s : State} {g : GeContext} {t : Augmented} (h : PartsAllocated s g t)
    (hp : t.pc.isSome = true) : t.pc = s.getP g.pc := by
  rw [h.pc, presentPart, ← h.pcPresent, if_pos hp]

theorem optionRel_isSome {α : Type} {R : α → α → Prop} {o p : Option α} (h : Option.Rel R o p) :
    p.isSome = o.isSome := by
  cases h <;> rfl

/-- The parts written back change `parts` only, where a part either is one of them or is unchanged. -/
theorem frame_putContext {s : State} {t u : Augmented} {parts : List Part} (h : PartsAllocated s s.ge t)
    (hu : t.InPlace u) (ha : .m s.ge.a ∈ parts) (hd : s.ge.hasD = true → u.d = t.d ∨ .m s.ge.d ∈ parts)
    (hpr : s.ge.hasPR = true → u.pr = t.pr ∨ .p s.ge.pr ∈ parts)
    (hpc : s.ge.hasPC = true → u.pc = t.pc ∨ .p s.ge.pc ∈ parts) : Frame parts s (s.putContext u) := by
  have hm : ∀ k, Part.m k ∉ parts → (s.putContext u).getM k = s.getM k := by
    intro k hk
    rw [putContext_getM]
    split
    next hcond =>
      obtain ⟨hsome, rfl⟩ := hcond
      have ht : t.d.isSome = true := (optionRel_isSome hu.d).symm.trans hsome
      obtain he | he := hd (h.dPresent.symm.trans ht)
      · rw [he, h.d_eq ht]
      · exact absurd he hk
    next =>
      split
      next he => exact absurd (he ▸ ha) hk
      next => rfl
  have hp : ∀ k, Part.p k ∉ parts → (s.putContext u).getP k = s.getP k := by
    intro k hk
    rw [putContext_getP]
    split
    next hcond =>
      obtain ⟨hsome, rfl⟩ := hcond
      have ht : t.pc.isSome = true := (optionRel_isSome hu.pc).symm.trans hsome
      obtain he | he := hpc (h.pcPresent.symm.trans ht)
      · rw [he, h.pc_eq ht]
      · exact absurd he hk
    next =>
      split
      next hcond =>
        obtain ⟨hsome, rfl⟩ := hcond
        have ht : t.pr.isSome = true := (optionRel_isSome hu.pr).symm.trans hsome
        obtain he | he := hpr (h.prPresent.symm.trans ht)
        · rw [he, h.pr_eq ht]
        · exact absurd he hk
      next => rfl
  rw [putContext_eq s u]
  exact { frame_refl parts s with m := hm, p := hp }

/-- The parts written back are canonical and within capacity. -/
theorem objectsWf_putContext {s : State} {t u : Augmented} (hi : Inv s) (h : PartsAllocated s s.ge t)
    (hu : t.InPlace u) : (s.putContext u).objectsWf = true := by
  rw [objectsWf_iff]
  have hparams : (s.putContext u).params = s.params := by rw [putContext_eq]
  rw [hparams]
  have hform {m m' : ByteMatrix} {k : MSlot} (hm : s.getM k = some m) (hs : SameForm m m') :
      m'.wf = true ∧ m'.rows ≤ s.params.mMaxDim ∧ m'.cols ≤ s.params.mMaxDim := by
    obtain ⟨hwf, hr, hc⟩ := hi.matrix hm
    exact ⟨hs.wf hwf, hs.rows ▸ hr, hs.cols ▸ hc⟩
  have hlist {o o' : Option (List Word)} {k : PSlot} {p : List Word} (ho : o.isSome = true → o = s.getP k)
      (hs : Option.Rel SameLength o o') (hp : o' = some p) :
      p.length ≤ s.params.pMaxLen := by
    subst hp
    cases hs with
    | some hl => exact hl ▸ hi.indexList (ho rfl).symm
  refine ⟨fun k m hm => ?_, fun k v hv => ?_, fun k p hp => ?_⟩
  · rw [putContext_getM] at hm
    split at hm
    next =>
      have hd := hu.d
      rw [hm] at hd
      generalize ht : t.d = o at hd
      cases hd with
      | some hs => exact hform (((h.d_eq (by rw [ht]; rfl)).symm.trans ht)) hs
    next =>
      split at hm
      next => cases hm; exact hform h.a hu.a
      next => exact hi.matrix hm
  · rw [putContext_eq] at hv
    exact hi.vector hv
  · rw [putContext_getP] at hp
    split at hp
    next => exact hlist h.pc_eq hu.pc hp
    next =>
      split at hp
      next => exact hlist h.pr_eq hu.pr hp
      next => exact hi.indexList hp

theorem commits_putContext {s : State} {t u : Augmented} {parts : List Part} (h : PartsAllocated s s.ge t)
    (hu : t.InPlace u) (ha : .m s.ge.a ∈ parts) (hd : s.ge.hasD = true → u.d = t.d ∨ .m s.ge.d ∈ parts)
    (hpr : s.ge.hasPR = true → u.pr = t.pr ∨ .p s.ge.pr ∈ parts)
    (hpc : s.ge.hasPC = true → u.pc = t.pc ∨ .p s.ge.pc ∈ parts) : Commits parts s (s.putContext u) := by
  have hf := frame_putContext h hu ha hd hpr hpc
  have hw (hi : Inv s) := objectsWf_putContext hi h hu
  rw [putContext_eq s u] at hf hw ⊢
  exact ⟨hf, rfl, rfl, rfl, fun hi => { hi with objects := hw hi }⟩

/-- Further writes after a commit. -/
theorem Commits.trans {p q r : List Part} {s t u : State} (h : Commits p s t) (h' : Commits q t u) (hp : p ⊆ r)
    (hq : q ⊆ r) : Commits r s u where
  frame := by
    have hf := h.frame
    have hf' := h'.frame
    exact {
      x := fun n hn => (hf'.x n fun e => hn (hq e)).trans (hf.x n fun e => hn (hp e))
      m := fun n hn => (hf'.m n fun e => hn (hq e)).trans (hf.m n fun e => hn (hp e))
      v := fun n hn => (hf'.v n fun e => hn (hq e)).trans (hf.v n fun e => hn (hp e))
      p := fun n hn => (hf'.p n fun e => hn (hq e)).trans (hf.p n fun e => hn (hp e))
      ge := fun hn => (hf'.ge fun e => hn (hq e)).trans (hf.ge fun e => hn (hp e))
      sv := fun hn => (hf'.sv fun e => hn (hq e)).trans (hf.sv fun e => hn (hp e))
      signal := fun hn => (hf'.signal fun e => hn (hq e)).trans (hf.signal fun e => hn (hp e))
      cause := hf'.cause.trans hf.cause
      faultCmd := hf'.faultCmd.trans hf.faultCmd
      faultSeq := hf'.faultSeq.trans hf.faultSeq
      fault := hf'.fault.trans hf.fault
      overrun := hf'.overrun.trans hf.overrun
      accerr := hf'.accerr.trans hf.accerr
      ctrl := hf'.ctrl.trans hf.ctrl
      dwsel := hf'.dwsel.trans hf.dwsel
      dwaddr := hf'.dwaddr.trans hf.dwaddr
      params := hf'.params.trans hf.params
      agenda := hf'.agenda.trans hf.agenda
      response := hf'.response.trans hf.response
      draws := hf'.draws.trans hf.draws }
  queue := h'.queue.trans h.queue
  cmdcnt := h'.cmdcnt.trans h.cmdcnt
  done := h'.done.trans h.done
  inv := h'.inv ∘ h.inv

end Sys2Proof.Machine
end

section
/-! PROOFS. Every command ends in one of two ways (60_exceptions.md R380): its checks let it commit to the parts of its
rule, or they raise a cause of its row of R370. One rule for each check and each shared form of command, then the
commands. -/

namespace Sys2Proof.Machine

/-! The solver's result has the configured shape (R333). -/

theorem solveInOrder_shape {l t : Nat} {rows : List (List Byte × List Byte)} {sol : List (List Byte)}
    (h : solveInOrder l t rows = some sol) : sol.length = l ∧ ∀ r ∈ sol, r.length = t := by
  unfold solveInOrder at h
  dsimp only at h
  split at h
  · cases h
    refine ⟨by simp, fun r hr => ?_⟩
    obtain ⟨i, -, rfl⟩ := List.mem_map.mp hr
    exact newVector_length ..
  · contradiction

theorem solveRows_shape {l t : Nat} {rows : List (List Byte × List Byte)} {sol : List (List Byte)}
    (h : solveRows l t rows = some sol) : sol.length = l ∧ ∀ r ∈ sol, r.length = t := by
  unfold solveRows at h
  split at h
  · contradiction
  next first hfirst =>
    split at h
    · cases h
      exact solveInOrder_shape hfirst
    · cases h
      cases hre : solveInOrder l t (reorder rows (Config.freeRowOrder l t rows)) with
      | none => exact solveInOrder_shape hfirst
      | some sol => exact solveInOrder_shape hre

/-! The two ends. -/

/-- The causes a command may end in: a cause of its row, and `InsufficientSymbols` only where `SVRUN` is accepted. -/
structure Allowed (i : Instr) (s : State) (c : Cause) : Prop where
  raised : i.wellFormed = true → mayRaise i c = true
  accepted : c = .insufficientSymbols → s.sv.state.acceptsRun = true

/-- A cause of the command's row other than `InsufficientSymbols`. -/
def ordinary (i : Instr) (c : Cause) : Bool := mayRaise i c && c != .insufficientSymbols

theorem allowed_of_ordinary {i : Instr} {c : Cause} (h : ordinary i c = true) (s : State) : Allowed i s c := by
  rw [ordinary, Bool.and_eq_true, bne_iff_ne] at h
  exact ⟨fun _ => h.1, fun e => absurd e h.2⟩

/-- r is an end that i may come to from s. -/
def EndsWell (i : Instr) (s : State) : Result → Prop
  | .ok t => Commits (writesOf s i) s t
  | .error c => Allowed i s c

variable {i : Instr} {s : State}

theorem endsWell_ok {t : State} (h : Commits (writesOf s i) s t) : EndsWell i s (.ok t) := h

theorem endsWell_require {h : Bool} {c : Cause} {k : Result} (hk : h = true → EndsWell i s k)
    (hc : ordinary i c = true := by rfl) : EndsWell i s (require h c k) := by
  cases h with
  | true => exact hk rfl
  | false => exact allowed_of_ordinary hc s

theorem endsWell_withM {a : MSlot} {f : ByteMatrix → Result} (hf : ∀ m, s.getM a = some m → EndsWell i s (f m))
    (hc : ordinary i .unallocatedSlot = true := by rfl) : EndsWell i s (withM s a f) := by
  cases ha : s.getM a with
  | none => exact withM_none ha f ▸ allowed_of_ordinary hc s
  | some m => exact withM_some ha f ▸ hf m ha

theorem endsWell_withV {a : VSlot} {f : List Byte → Result} (hf : ∀ v, s.getV a = some v → EndsWell i s (f v))
    (hc : ordinary i .unallocatedSlot = true := by rfl) : EndsWell i s (withV s a f) := by
  cases ha : s.getV a with
  | none => exact withV_none ha f ▸ allowed_of_ordinary hc s
  | some v => exact withV_some ha f ▸ hf v ha

theorem endsWell_withP {a : PSlot} {f : List Word → Result} (hf : ∀ p, s.getP a = some p → EndsWell i s (f p))
    (hc : ordinary i .unallocatedSlot = true := by rfl) : EndsWell i s (withP s a f) := by
  cases ha : s.getP a with
  | none => exact withP_none ha f ▸ allowed_of_ordinary hc s
  | some p => exact withP_some ha f ▸ hf p ha

theorem endsWell_withParts {g : GeContext} {f : Augmented → Result}
    (hf : ∀ t, PartsAllocated s g t → EndsWell i s (f t)) (hu : ordinary i .unallocatedSlot = true := by rfl)
    (hd : ordinary i .dimensionMismatch = true := by rfl) : EndsWell i s (withParts s g f) := by
  obtain h | h | ⟨t, ht, -, h⟩ := withParts_cases s g f
  · exact h ▸ allowed_of_ordinary hu s
  · exact h ▸ allowed_of_ordinary hd s
  · exact h ▸ hf t ht

theorem endsWell_withContext {f : Augmented → Result} (hf : ∀ t, PartsAllocated s s.ge t → EndsWell i s (f t))
    (hi : ordinary i .illegalState = true := by rfl) (hu : ordinary i .unallocatedSlot = true := by rfl)
    (hd : ordinary i .dimensionMismatch = true := by rfl) : EndsWell i s (withContext s f) :=
  endsWell_require (fun _ => endsWell_withParts hf hu hd) hi

/-! The shared forms. Each writes the part its row names. -/

theorem endsWell_setX {d : XReg} (hw : writesOf s i = [.x d] := by rfl) (w : Word) : EndsWell i s (.ok (s.setX d w)) :=
  endsWell_ok (hw ▸ commits_setX s d w)

theorem endsWell_writeElement {d : XReg} {r : Except Cause Byte} (hr : ∀ c, r = .error c → ordinary i c = true)
    (hw : writesOf s i = [.x d] := by rfl) : EndsWell i s (writeElement s d r) := by
  cases r with
  | ok b => exact endsWell_setX hw _
  | error c => exact allowed_of_ordinary (hr c rfl) s

theorem endsWell_vectorBinary (f : Byte → Byte → Byte) {d : VSlot} (b c : VSlot)
    (hu : ordinary i .unallocatedSlot = true := by rfl) (hd : ordinary i .dimensionMismatch = true := by rfl)
    (hw : writesOf s i = [.v d] := by rfl) : EndsWell i s (vectorBinary f d b c s) :=
  endsWell_withV (fun _ hb => endsWell_withV (fun _ _ => endsWell_require (fun _ =>
    endsWell_ok (hw ▸ commits_newVector d _ fun hi => hi.vector hb)) hd) hu) hu

theorem endsWell_copyShape {d : MSlot} {b : MSlot} {m : ByteMatrix} (hm : s.getM b = some m) (rep : MRepr)
    (f : Nat → Nat → Byte) (hw : writesOf s i = [.m d] := by rfl) :
    EndsWell i s (.ok (s.setM d (some (newMatrix m.rows m.cols rep f)))) :=
  endsWell_ok (hw ▸ commits_newMatrix d rep f fun hi => (hi.matrix hm).2)

theorem endsWell_matrixBinary (f : Byte → Byte → Byte) {d : MSlot} (b c : MSlot) (rep : ReprCode)
    (hu : ordinary i .unallocatedSlot = true := by rfl) (hd : ordinary i .dimensionMismatch = true := by rfl)
    (hw : writesOf s i = [.m d] := by rfl) : EndsWell i s (matrixBinary f d b c rep s) :=
  endsWell_withM (fun _ hm => endsWell_withM (fun _ _ => endsWell_require (fun _ =>
    endsWell_copyShape hm _ _ hw) hd) hu) hu

theorem endsWell_sliceInto {d : MSlot} (b : MSlot) (r0 c0 r1 c1 : ByteMatrix → Nat)
    (hu : ordinary i .unallocatedSlot = true := by rfl) (hr : ordinary i .indexOutOfRange = true := by rfl)
    (hw : writesOf s i = [.m d] := by rfl) : EndsWell i s (sliceInto d b r0 c0 r1 c1 s) := by
  refine endsWell_withM (fun m hm => endsWell_require (fun hrect => endsWell_ok
    (hw ▸ commits_newMatrix d _ _ fun hi => ?_)) hr) hu
  obtain ⟨-, hrows, hcols⟩ := hi.matrix hm
  simp only [rectOk, rangeOk, Bool.and_eq_true, decide_eq_true_eq] at hrect
  omega

theorem endsWell_readRect {d : XReg} (b : MSlot) (r0 c0 r1 c1 : XReg) (f : List Byte → Word)
    (hu : ordinary i .unallocatedSlot = true := by rfl) (hr : ordinary i .indexOutOfRange = true := by rfl)
    (hw : writesOf s i = [.x d] := by rfl) : EndsWell i s (readRect d b r0 c0 r1 c1 f s) :=
  endsWell_withM (fun _ _ => endsWell_require (fun _ => endsWell_setX hw _) hr) hu

theorem endsWell_updateRect (op : Byte → Byte → Byte) (nz : Bool) {a : MSlot} (b r0 c0 r1 c1 : XReg)
    (hu : ordinary i .unallocatedSlot = true := by rfl) (hr : ordinary i .indexOutOfRange = true := by rfl)
    (hw : writesOf s i = [.m a] := by rfl) : EndsWell i s (updateRect op nz a b r0 c0 r1 c1 s) :=
  endsWell_withM (fun _ hm => endsWell_require (fun _ => endsWell_copyShape hm _ _ hw) hr) hu

end Sys2Proof.Machine
end

section
/-! PROOFS. The end of every command, family by family. -/

namespace Sys2Proof.Machine

/-! The solver's commands keep its invariant (47_solver.md R330, R332). -/

theorem params_svMax_le {c : Params} (h : c.valid = true) : c.svMaxL ≤ c.mMaxDim ∧ c.svMaxT ≤ c.mMaxDim := by
  simp only [Params.valid, decide_eq_true_eq] at h
  omega

/-- Outside `Idle` the sizes are within the limits. -/
theorem Solver.wf_sizes {c : Params} {sv : Solver} (h : sv.wf c = true) (hne : sv.state ≠ .idle) :
    1 ≤ sv.l.toNat ∧ sv.l.toNat ≤ c.svMaxL ∧ 1 ≤ sv.t.toNat ∧ sv.t.toNat ≤ c.svMaxT := by
  simp only [Solver.wf, Bool.and_eq_true, Bool.or_eq_true, beq_iff_eq, decide_eq_true_eq] at h
  exact h.1.1.2.resolve_left hne

/-- What the solver's invariant says of the rows. -/
theorem Solver.wf_rows {c : Params} {sv : Solver} (h : sv.wf c = true) :
    sv.rows.length ≤ c.svMaxRows ∧ ∀ row ∈ sv.rows, row.1.length = sv.l.toNat ∧ row.2.length = sv.t.toNat := by
  simp only [Solver.wf, Bool.and_eq_true, decide_eq_true_eq, List.all_eq_true, beq_iff_eq] at h
  exact ⟨h.1.2, h.2⟩

theorem SvState.ne_idle_of_acceptsRun {q : SvState} (h : q.acceptsRun = true) : q ≠ .idle := by
  rintro rfl
  contradiction

/-- The solver in `Collecting` or `Failed`: no solution, sizes and rows within bounds. -/
theorem Solver.wf_collecting {c : Params} {sv : Solver} (hq : sv.state = .collecting ∨ sv.state = .failed)
    (hsol : sv.sol = [])
    (hsize : 1 ≤ sv.l.toNat ∧ sv.l.toNat ≤ c.svMaxL ∧ 1 ≤ sv.t.toNat ∧ sv.t.toNat ≤ c.svMaxT)
    (hn : sv.rows.length ≤ c.svMaxRows)
    (hrows : ∀ row ∈ sv.rows, row.1.length = sv.l.toNat ∧ row.2.length = sv.t.toNat) : sv.wf c = true := by
  have hall : (sv.rows.all fun row => row.1.length == sv.l.toNat && row.2.length == sv.t.toNat) = true := by
    simpa [List.all_eq_true] using hrows
  obtain hq | hq := hq <;> simp [Solver.wf, hq, hsol, hsize, hn, hall]

/-- Rows may be added only while there is no solution. -/
theorem Solver.wf_noSolution {c : Params} {sv : Solver} (h : sv.wf c = true) (ha : sv.state.acceptsRows = true) :
    sv.state ≠ .idle ∧ sv.sol = [] := by
  simp only [Solver.wf, Bool.and_eq_true] at h
  have hmatch := h.1.1.1
  generalize sv.state = q at ha hmatch
  cases q <;> simp_all [SvState.acceptsRows]

theorem commits_appendRows {s : State} {new : List (List Byte × List Byte)}
    (ha : s.sv.state.acceptsRows = true) (hn : s.sv.n + new.length ≤ s.params.svMaxRows)
    (hnew : ∀ row ∈ new, row.1.length = s.sv.l.toNat ∧ row.2.length = s.sv.t.toNat) :
    Commits [.sv] s (s.appendRows new) := by
  refine commits_sv (fun hi => ?_) (fun _ => nofun)
  obtain ⟨hidle, hsol⟩ := Solver.wf_noSolution hi.solver ha
  have hsize := Solver.wf_sizes hi.solver hidle
  refine Solver.wf_collecting (.inl rfl) hsol hsize ?_ fun row hrow => ?_
  · rw [List.length_append]
    exact hn
  · obtain hold | hadd := List.mem_append.mp hrow
    · exact (Solver.wf_rows hi.solver).2 row hold
    · exact hnew row hadd

/-- `SVRUN` (R343): accepted, it ends in `InsufficientSymbols` or in `Solved` with what `solveRows` computed. -/
theorem endsWell_svrun (s : State) : EndsWell .svrun s
    (require s.sv.state.acceptsRun .illegalState <|
    require (decide (s.sv.l.toNat ≤ s.sv.n)) .insufficientSymbols <|
    match solveRows s.sv.l.toNat s.sv.t.toNat s.sv.rows with
    | none => .error .insufficientSymbols
    | some sol => .ok { s with sv := { s.sv with state := .solved, sol := sol } }) := by
  refine endsWell_require fun haccept => ?_
  have hinsufficient : Allowed .svrun s .insufficientSymbols := ⟨fun _ => rfl, fun _ => haccept⟩
  cases decide (s.sv.l.toNat ≤ s.sv.n) with
  | false => exact hinsufficient
  | true =>
    cases hsolve : solveRows s.sv.l.toNat s.sv.t.toNat s.sv.rows with
    | none => exact hinsufficient
    | some sol =>
      refine endsWell_ok (commits_sv (fun hi => ?_) fun _ _ => hsolve)
      obtain ⟨hlen, hrow⟩ := solveRows_shape hsolve
      obtain ⟨hn, hrows⟩ := Solver.wf_rows hi.solver
      have hsize := Solver.wf_sizes hi.solver (SvState.ne_idle_of_acceptsRun haccept)
      have hall : (s.sv.rows.all fun row => row.1.length == s.sv.l.toNat && row.2.length == s.sv.t.toNat) = true := by
        simpa [List.all_eq_true] using hrows
      have hsol : (sol.all fun r => r.length == s.sv.t.toNat) = true := by
        simpa [List.all_eq_true] using hrow
      simp [Solver.wf, hlen, hsol, hn, hsize, hall]

/-! `GECFG` (R304). -/

/-- The checks of `GECFG` before a context g that they make well formed. -/
theorem endsWell_gecfg (s : State) (a d : MSlot) (pr pc : PSlot) (fl : GeFlags) (g : GeContext)
    (hg : gecfgFieldsOk d pr pc fl = true → (!(fl.hasD && d == a)) = true →
      (!(fl.hasPR && fl.hasPC && pr == pc)) = true → g.wf = true) :
    EndsWell (.gecfg a d pr pc fl) s
      (require (gecfgFieldsOk d pr pc fl) .illegalCommand <|
      withParts s g fun _ =>
      require (!(fl.hasD && d == a)) .illegalArgument <|
      require (!(fl.hasPR && fl.hasPC && pr == pc)) .illegalArgument <|
      .ok { s with ge := g }) := by
  cases hfields : gecfgFieldsOk d pr pc fl with
  | false => exact ⟨fun h => Bool.noConfusion (hfields.symm.trans h), nofun⟩
  | true =>
    rw [require_true]
    exact endsWell_withParts fun _ _ => endsWell_require fun hda => endsWell_require fun hlists =>
      endsWell_ok (commits_ge (hg hfields hda hlists))

/-- The context that `GECFG` sets (R304) is well formed: the field check, then D apart from A and PR from PC. -/
theorem geContext_wf {a d : MSlot} {pr pc : PSlot} {fl : GeFlags} (hfields : gecfgFieldsOk d pr pc fl = true)
    (hda : (!(fl.hasD && d == a)) = true) (hlists : (!(fl.hasPR && fl.hasPC && pr == pc)) = true) :
    GeContext.wf ⟨true, a, fl.hasD, d, fl.hasPR, pr, fl.hasPC, pc⟩ = true := by
  simp only [gecfgFieldsOk, Bool.and_eq_true] at hfields
  simp only [GeContext.wf, Bool.true_or, Bool.true_and, Bool.and_eq_true]
  exact ⟨⟨hfields, hda⟩, hlists⟩

/-! The row operations (R302): A and D are changed, the lists are not. -/

theorem commits_systemParts {s : State} {t u : Augmented} (h : PartsAllocated s s.ge t) (hu : t.InPlace u)
    (hpr : u.pr = t.pr) (hpc : u.pc = t.pc) : Commits s.systemParts s (s.putContext u) :=
  commits_putContext h hu (by simp [State.systemParts]) (fun hd => .inr (by simp [State.systemParts, hd]))
    (fun _ => .inl hpr) (fun _ => .inl hpc)

/-- Rows exchanged, or the whole elimination: A, D and the row list are changed. -/
theorem commits_systemAndRowList {s : State} {t u : Augmented} (h : PartsAllocated s s.ge t) (hu : t.InPlace u)
    (hpc : u.pc = t.pc) : Commits (s.systemParts ++ s.rowListPart) s (s.putContext u) :=
  commits_putContext h hu (by simp [State.systemParts]) (fun hd => .inr (by simp [State.systemParts, hd]))
    (fun hp => .inr (by simp [State.rowListPart, hp])) (fun _ => .inl hpc)

/-- Columns exchanged: A and the column list are changed. -/
theorem commits_columns {s : State} {t u : Augmented} (h : PartsAllocated s s.ge t) (hu : t.InPlace u)
    (hd : u.d = t.d) (hpr : u.pr = t.pr) : Commits (.m s.ge.a :: s.colListPart) s (s.putContext u) :=
  commits_putContext h hu (by simp) (fun _ => .inl hd) (fun _ => .inl hpr)
    (fun hp => .inr (by simp [State.colListPart, hp]))

/-! All commands. -/

theorem gfDiv_error {a b : Byte} {c : Cause} (h : gfDiv a b = .error c) : c = .divisionByZero := by
  unfold gfDiv at h
  split at h <;> cases h
  rfl

theorem gfInv_error {a : Byte} {c : Cause} (h : gfInv a = .error c) : c = .divisionByZero := by
  unfold gfInv at h
  split at h <;> cases h
  rfl

/-- `exec i s` finishes with an end that R370 and the command's rule allow. -/
theorem exec_endsWell (i : Instr) (s : State) : ∃ r, exec i s = finish s r ∧ EndsWell i s r := by
  cases i with
  -- System and scalar-register commands
  | nop => exact ⟨_, rfl, endsWell_ok (commits_refl _ s)⟩
  | signal => exact ⟨_, rfl, endsWell_ok (commits_signal s)⟩
  | xli | xlui | xaddi | xmov | xadd | xsub => exact ⟨_, rfl, endsWell_setX rfl _⟩
  -- GF(256) commands
  | gadd | gmul | gexp | gpow =>
    exact ⟨writeElement s _ (.ok _), rfl, endsWell_writeElement nofun⟩
  | gdiv => exact ⟨_, rfl, endsWell_writeElement fun c hc => by rw [gfDiv_error hc]; rfl⟩
  | ginv => exact ⟨_, rfl, endsWell_writeElement fun c hc => by rw [gfInv_error hc]; rfl⟩
  | glog d b =>
    refine ⟨_, rfl, ?_⟩
    unfold gfLog
    split
    next n hn => exact endsWell_setX rfl _
    next c hc =>
      split at hc <;> cases hc
      exact allowed_of_ordinary rfl s
  -- Byte-vector commands
  | valloc d n =>
    exact ⟨_, rfl, endsWell_require fun h => endsWell_ok (commits_newVector d _ fun _ => of_decide_eq_true h)⟩
  | vfree d => exact ⟨_, rfl, endsWell_withV fun _ _ => endsWell_ok (commits_freeV s d)⟩
  | vlen => exact ⟨_, rfl, endsWell_withV fun _ _ => endsWell_setX rfl _⟩
  | vget | vnnz => exact ⟨_, rfl, endsWell_withV fun _ _ => endsWell_require fun _ => endsWell_setX rfl _⟩
  | vset d | vswp d =>
    exact ⟨_, rfl, endsWell_withV fun _ hv => endsWell_require fun _ =>
      endsWell_ok (commits_newVector d _ fun hi => hi.vector hv)⟩
  | vcopy d | vfill d | vadds d | vmuls d =>
    exact ⟨_, rfl, endsWell_withV fun _ hv => endsWell_ok (commits_newVector d _ fun hi => hi.vector hv)⟩
  | vadd | vhad => exact ⟨_, rfl, endsWell_vectorBinary _ _ _⟩
  | vdivs d =>
    exact ⟨_, rfl, endsWell_withV fun _ hv => endsWell_require fun _ =>
      endsWell_ok (commits_newVector d _ fun hi => hi.vector hv)⟩
  | vaxpy d =>
    exact ⟨_, rfl, endsWell_withV fun _ hv => endsWell_withV fun _ _ => endsWell_require fun _ =>
      endsWell_ok (commits_newVector d _ fun hi => hi.vector hv)⟩
  | vdot =>
    exact ⟨_, rfl, endsWell_withV fun _ _ => endsWell_withV fun _ _ => endsWell_require fun _ => endsWell_setX rfl _⟩
  | vslice d =>
    refine ⟨_, rfl, endsWell_withV fun v hv => endsWell_require fun h =>
      endsWell_ok (commits_newVector d _ fun hi => ?_)⟩
    have := hi.vector hv
    simp only [rangeOk, decide_eq_true_eq] at h
    omega
  | vsel d =>
    exact ⟨_, rfl, endsWell_withV fun _ _ => endsWell_withP fun _ _ => endsWell_require fun _ =>
      endsWell_require fun h => endsWell_ok (commits_newVector d _ fun _ => of_decide_eq_true h)⟩
  -- Index-list commands
  | palloc d =>
    exact ⟨_, rfl, endsWell_require fun h => endsWell_ok (commits_newIndex d _ fun _ => of_decide_eq_true h)⟩
  | pfree d => exact ⟨_, rfl, endsWell_withP fun _ _ => endsWell_ok (commits_freeP s d)⟩
  | plen => exact ⟨_, rfl, endsWell_withP fun _ _ => endsWell_setX rfl _⟩
  | pget => exact ⟨_, rfl, endsWell_withP fun _ _ => endsWell_require fun _ => endsWell_setX rfl _⟩
  | pset d | pswp d | pinv d =>
    exact ⟨_, rfl, endsWell_withP fun _ hp => endsWell_require fun _ =>
      endsWell_ok (commits_newIndex d _ fun hi => hi.indexList hp)⟩
  | pcopy d =>
    exact ⟨_, rfl, endsWell_withP fun _ hp => endsWell_ok (commits_newIndex d _ fun hi => hi.indexList hp)⟩
  -- Matrix store commands
  | malloc d =>
    exact ⟨_, rfl, endsWell_require fun h => endsWell_ok (commits_newMatrix d _ _ fun _ => of_decide_eq_true h)⟩
  | mfree d => exact ⟨_, rfl, endsWell_withM fun _ _ => endsWell_ok (commits_freeM s d)⟩
  | mrows | mcols | mrepr => exact ⟨_, rfl, endsWell_withM fun _ _ => endsWell_setX rfl _⟩
  | mget => exact ⟨_, rfl, endsWell_withM fun _ _ => endsWell_require fun _ => endsWell_setX rfl _⟩
  | mset | mswpr | mswpc =>
    exact ⟨_, rfl, endsWell_withM fun _ hm => endsWell_require fun _ => endsWell_copyShape hm _ _⟩
  | mgetr d =>
    exact ⟨_, rfl, endsWell_withM fun _ hm => endsWell_require fun _ => endsWell_ok (commits_newVector d _ fun hi =>
      (hi.matrix hm).2.2.trans hi.dim_le_vMaxLen)⟩
  | mgetc d =>
    exact ⟨_, rfl, endsWell_withM fun _ hm => endsWell_require fun _ => endsWell_ok (commits_newVector d _ fun hi =>
      (hi.matrix hm).2.1.trans hi.dim_le_vMaxLen)⟩
  | msetr | msetc =>
    exact ⟨_, rfl, endsWell_withM fun _ hm => endsWell_withV fun _ _ => endsWell_require fun _ =>
      endsWell_require fun _ => endsWell_copyShape hm _ _⟩
  | mcopy => exact ⟨_, rfl, endsWell_withM fun _ hm => endsWell_copyShape hm _ _⟩
  | mtrn d | mrot d =>
    exact ⟨_, rfl, endsWell_withM fun _ hm => endsWell_ok (commits_newMatrix d _ _ fun hi => (hi.matrix hm).2.symm)⟩
  | mslice | msltl | mslbr => exact ⟨_, rfl, endsWell_sliceInto _ _ _ _ _⟩
  | msel d =>
    exact ⟨_, rfl, endsWell_withM fun _ _ => endsWell_withP fun _ _ => endsWell_withP fun _ _ =>
      endsWell_require fun _ => endsWell_require fun h =>
        endsWell_ok (commits_newMatrix d _ _ fun _ => of_decide_eq_true h)⟩
  | mselr d =>
    exact ⟨_, rfl, endsWell_withM fun _ hm => endsWell_withP fun _ _ => endsWell_require fun _ =>
      endsWell_require fun h => endsWell_ok (commits_newMatrix d _ _ fun hi =>
        ⟨of_decide_eq_true h, (hi.matrix hm).2.2⟩)⟩
  | mselc d =>
    exact ⟨_, rfl, endsWell_withM fun _ hm => endsWell_withP fun _ _ => endsWell_require fun _ =>
      endsWell_require fun h => endsWell_ok (commits_newMatrix d _ _ fun hi =>
        ⟨(hi.matrix hm).2.1, of_decide_eq_true h⟩)⟩
  | mnnz => exact ⟨_, rfl, endsWell_readRect _ _ _ _ _ _⟩
  -- Matrix arithmetic commands
  | madd | mhad => exact ⟨_, rfl, endsWell_matrixBinary _ _ _ _⟩
  | madds | mmuls => exact ⟨_, rfl, endsWell_withM fun _ hm => endsWell_copyShape hm _ _⟩
  | mdivs => exact ⟨_, rfl, endsWell_withM fun _ hm => endsWell_require fun _ => endsWell_copyShape hm _ _⟩
  | mmul d =>
    exact ⟨_, rfl, endsWell_withM fun _ hm => endsWell_withM fun _ hn => endsWell_require fun _ =>
      endsWell_ok (commits_newMatrix d _ _ fun hi => ⟨(hi.matrix hm).2.1, (hi.matrix hn).2.2⟩)⟩
  | mpow d =>
    refine ⟨_, rfl, endsWell_withM fun m hm => endsWell_require fun h => endsWell_ok (commits_setM d fun hi p hp => ?_)⟩
    cases hp
    obtain ⟨hrows, hcols, hwf⟩ := powBits_shape _ m (of_decide_eq_true h) 32 _
    rw [hrows, hcols]
    exact ⟨hwf, (hi.matrix hm).2.1, (hi.matrix hm).2.1⟩
  | mmulv d =>
    exact ⟨_, rfl, endsWell_withM fun _ hm => endsWell_withV fun _ _ => endsWell_require fun _ =>
      endsWell_ok (commits_newVector d _ fun hi => (hi.matrix hm).2.1.trans hi.dim_le_vMaxLen)⟩
  | vmulm d =>
    exact ⟨_, rfl, endsWell_withV fun _ _ => endsWell_withM fun _ hm => endsWell_require fun _ =>
      endsWell_ok (commits_newVector d _ fun hi => (hi.matrix hm).2.2.trans hi.dim_le_vMaxLen)⟩
  | muset | muxor | mumul | musetnz | muxornz | mumulnz => exact ⟨_, rfl, endsWell_updateRect _ _ _ _ _ _ _⟩
  | mfsum | mfprod => exact ⟨_, rfl, endsWell_readRect _ _ _ _ _ _⟩
  | mis | mnon => exact ⟨_, rfl, endsWell_withM fun _ _ => endsWell_setX rfl _⟩
  -- Gaussian-elimination commands
  | gecfg a d pr pc fl => exact ⟨_, rfl, endsWell_gecfg s a d pr pc fl _ geContext_wf⟩
  | geswpr =>
    exact ⟨_, rfl, endsWell_withContext fun _ ht => endsWell_require fun _ =>
      endsWell_ok (commits_systemAndRowList ht (inPlace_swapRows ..) rfl)⟩
  | geswpc =>
    exact ⟨_, rfl, endsWell_withContext fun _ ht => endsWell_require fun _ =>
      endsWell_ok (commits_columns ht (inPlace_swapCols ..) rfl rfl)⟩
  | gescl =>
    exact ⟨_, rfl, endsWell_withContext fun _ ht => endsWell_require fun _ =>
      endsWell_ok (commits_systemParts ht (inPlace_scaleRow ..) rfl rfl)⟩
  | geaxpy =>
    exact ⟨_, rfl, endsWell_withContext fun _ ht => endsWell_require fun _ =>
      endsWell_ok (commits_systemParts ht (inPlace_axpyRows ..) rfl rfl)⟩
  | genorm =>
    exact ⟨_, rfl, endsWell_withContext fun _ ht => endsWell_require fun _ => endsWell_require fun _ =>
      endsWell_ok (commits_systemParts ht (inPlace_scaleRow ..) rfl rfl)⟩
  | geelim =>
    exact ⟨_, rfl, endsWell_withContext fun _ ht => endsWell_require fun _ => endsWell_require fun _ =>
      endsWell_ok (commits_systemParts ht (inPlace_axpyRows ..) rfl rfl)⟩
  | gepivf | gepivm =>
    exact ⟨_, rfl, endsWell_withContext fun _ _ => endsWell_require fun _ => endsWell_setX rfl _⟩
  | gerref d =>
    refine ⟨_, rfl, endsWell_withContext fun t ht => endsWell_ok ?_⟩
    exact (commits_systemAndRowList ht (inPlace_gaussJordan 0 _ t) (gaussJordan_pc 0 _ t)).trans
      (commits_setX _ d _) (List.subset_cons_self _ _) (by simp [writesOf])
  -- Solver commands
  | svinit =>
    refine ⟨_, rfl, endsWell_require fun h => endsWell_ok (commits_sv (fun _ => ?_) fun _ => nofun)⟩
    exact Solver.wf_collecting (.inl rfl) rfl (of_decide_eq_true h) (Nat.zero_le _) nofun
  | svaddr =>
    refine ⟨_, rfl, endsWell_require fun ha => endsWell_withV fun r _ => endsWell_withV fun y _ =>
      endsWell_require fun hlen => endsWell_require fun hn =>
        endsWell_ok (commits_appendRows ha (of_decide_eq_true hn) ?_)⟩
    exact List.forall_mem_singleton.mpr (of_decide_eq_true hlen)
  | svaddm =>
    refine ⟨_, rfl, endsWell_require fun ha => endsWell_withM fun m _ => endsWell_withM fun o _ =>
      endsWell_require fun hlen => endsWell_require fun hn =>
        endsWell_ok (commits_appendRows ha (by simpa using hn) ?_)⟩
    obtain ⟨hl, ht, -⟩ := of_decide_eq_true hlen
    simp [hl, ht]
  | svrun => exact ⟨_, rfl, endsWell_svrun s⟩
  | svres d =>
    refine ⟨_, rfl, endsWell_require fun h => endsWell_ok (commits_newMatrix d _ _ fun hi => ?_)⟩
    have hne : s.sv.state ≠ .idle := by rw [eq_of_beq h]; decide
    have hsize := Solver.wf_sizes hi.solver hne
    have hmax := params_svMax_le hi.params
    omega
  | svstat | svrows => exact ⟨_, rfl, endsWell_setX rfl _⟩
  | svabort => exact ⟨_, rfl, endsWell_ok (commits_sv (fun hi => by simp [Solver.wf]) fun _ => nofun)⟩

end Sys2Proof.Machine
end

section
/-! PROOFS. Steps: none stops (70_reset_and_hazards.md R408), each command retires or takes the fault entry
(60_exceptions.md R380) for a cause of its row (R370), and every step keeps the invariant. -/

namespace Sys2Proof.Machine

/-! The two ends of a command, as states. -/

/-- Everything `exec` can do: retire what it committed, or take the fault for a cause that its checks raise. -/
theorem exec_cases (i : Instr) (s : State) :
    (∃ t, exec i s = .next (retire t) ∧ Commits (writesOf s i) s t) ∨
      ∃ c, exec i s = .next (takeFault c s) ∧ Allowed i s c := by
  obtain ⟨r, hr, hend⟩ := exec_endsWell i s
  cases r with
  | ok t => exact .inl ⟨t, hr, hend⟩
  | error c => exact .inr ⟨c, hr, hend⟩

/-- A command that retired took no fault: `CMDCNT` counted it. -/
theorem Commits.not_faultEntry {parts : List Part} {s t : State} (h : Commits parts s t) (c : Cause) :
    ¬ FaultEntry c s (retire t) := by
  intro hf
  have hcount : s.cmdcnt + 1 = s.cmdcnt := h.retires.cmdcnt.symm.trans hf.cmdcnt
  bv_omega

/-- The cause of a fault is one the checks raise. -/
theorem allowed_of_faults {i : Instr} {c : Cause} {s : State} (h : Faults i c s) : Allowed i s c := by
  obtain ⟨u, hu, hfault⟩ := h
  obtain ⟨t, ht, hcommits⟩ | ⟨c', hc', hallowed⟩ := exec_cases i s
  · cases hu.symm.trans ht
    exact absurd hfault (hcommits.not_faultEntry c)
  · cases hu.symm.trans hc'
    cases hfault.cause
    exact hallowed

/-! The invariant through the two ends. -/

theorem inv_retire {s : State} (h : Inv s) : Inv (retire s) where
  params := h.params
  hardwired := h.hardwired
  objects := h.objects
  context := h.context
  solver := h.solver
  solution := h.solution
  queue := by
    rw [retire_queue, List.length_tail]
    exact (Nat.sub_le _ _).trans h.queue
  faulted hf := by rw [retire_queue, h.faulted hf, List.tail_nil]
  record := h.record

/-- `InsufficientSymbols` leaves the solver in `Failed` with no solution (R336). -/
theorem Solver.wf_failed {c : Params} {sv : Solver} (h : sv.wf c = true) (hrun : sv.state.acceptsRun = true) :
    Solver.wf c { sv with state := .failed, sol := [] } = true := by
  have hsize := Solver.wf_sizes h (SvState.ne_idle_of_acceptsRun hrun)
  obtain ⟨hn, hrows⟩ := Solver.wf_rows h
  exact Solver.wf_collecting (.inr rfl) rfl hsize hn hrows

theorem inv_takeFault {s : State} {c : Cause} (h : Inv s)
    (hc : c = .insufficientSymbols → s.sv.state.acceptsRun = true) : Inv (takeFault c s) where
  params := h.params
  hardwired := h.hardwired
  objects := h.objects
  context := h.context
  solver := by
    rw [takeFault_sv]
    split
    next hins => exact Solver.wf_failed h.solver (hc hins)
    next => exact h.solver
  solution := by
    rw [takeFault_sv]
    split
    · exact nofun
    · exact h.solution
  queue := Nat.zero_le _
  faulted _ := rfl
  record := nofun

theorem inv_exec {i : Instr} {s t : State} (h : Inv s) (ht : exec i s = .next t) : Inv t := by
  obtain ⟨u, hu, hcommits⟩ | ⟨c, hc, hallowed⟩ := exec_cases i s
  · cases ht.symm.trans hu
    exact inv_retire (hcommits.inv h)
  · cases ht.symm.trans hc
    exact inv_takeFault h hallowed.accepted

/-! The core's turn. -/

theorem coreStep_idle {s : State} (hq : s.queue = []) : coreStep s = .next s := by
  rw [coreStep, hq]

theorem coreStep_command {s : State} {w : Word} {rest : List Word} {i : Instr} (hq : s.queue = w :: rest)
    (hd : decode w = .ok i) : coreStep s = exec i s := by
  simp [coreStep, hq, hd]

/-- Everything the core can do on its turn. -/
theorem coreStep_cases (s : State) :
    (s.queue = [] ∧ coreStep s = .next s) ∨
    (∃ w rest i, s.queue = w :: rest ∧ decode w = .ok i ∧ coreStep s = exec i s) ∨
    ∃ w rest, s.queue = w :: rest ∧ coreStep s = .next (takeFault .illegalCommand s) := by
  cases hq : s.queue with
  | nil => exact .inl ⟨rfl, coreStep_idle hq⟩
  | cons w rest =>
    cases hd : decode w with
    | ok i => exact .inr (.inl ⟨w, rest, i, rfl, hd, coreStep_command hq hd⟩)
    | error e => exact .inr (.inr ⟨w, rest, rfl, coreStep_illegal hq hd⟩)

theorem inv_coreStep {s t : State} (h : Inv s) (ht : coreStep s = .next t) : Inv t := by
  obtain ⟨-, hs⟩ | ⟨w, rest, i, -, -, hs⟩ | ⟨w, rest, -, hs⟩ := coreStep_cases s
  · cases ht.symm.trans hs
    exact h
  · exact inv_exec h (hs.symm.trans ht)
  · cases ht.symm.trans hs
    exact inv_takeFault h nofun

/-- R31, R380: the core's turn ends with the next state, the queue one word shorter at least. -/
theorem coreStep_next (s : State) : ∃ t, coreStep s = .next t ∧ t.agenda = s.agenda ∧
    t.queue.length ≤ s.queue.length - 1 := by
  obtain ⟨hq, hs⟩ | ⟨w, rest, i, -, -, hs⟩ | ⟨w, rest, -, hs⟩ := coreStep_cases s
  · exact ⟨s, hs, rfl, by simp [hq]⟩
  · obtain ⟨u, hu, hcommits⟩ | ⟨c, hc, -⟩ := exec_cases i s
    · exact ⟨_, hs.trans hu, hcommits.frame.agenda, by simp [hcommits.queue]⟩
    · exact ⟨_, hs.trans hc, rfl, Nat.zero_le _⟩
  · exact ⟨_, hs, rfl, Nat.zero_le _⟩

theorem step_next (s : State) : ∃ t, step s = .next t := by
  unfold step
  split
  next => obtain ⟨t, ht, -⟩ := coreStep_next s; exact ⟨t, ht⟩
  next ev _ => obtain ⟨t, ht, -⟩ := coreStep_next { s with agenda := ev }; exact ⟨t, ht⟩
  next => exact ⟨_, rfl⟩
  next op ev _ => obtain ⟨t, ht, -⟩ := coreStep_next (hostAccess op true { s with agenda := ev }); exact ⟨t, ht⟩
  next => exact ⟨_, rfl⟩

theorem step_empty_agenda {s : State} (h : s.agenda = []) : step s = coreStep s := by
  rw [step, h]

/-- As many core steps as the queue has words empty it. -/
theorem run_drains (n : Nat) (s : State) (ha : s.agenda = []) (hn : s.queue.length ≤ n) :
    ∃ t, Host.Core.run core n s = .next t ∧ t.queue = [] := by
  induction n generalizing s with
  | zero => exact ⟨s, rfl, List.length_eq_zero_iff.mp (Nat.le_zero.mp hn)⟩
  | succ n ih =>
    obtain ⟨u, hu, hagenda, hlen⟩ := coreStep_next s
    obtain ⟨t, ht, hq⟩ := ih u (hagenda.trans ha) (by omega)
    refine ⟨t, ?_, hq⟩
    have hstep : core.step s = .next u := (step_empty_agenda ha).trans hu
    simp only [Host.Core.run, hstep]
    exact ht

/-! The host's accesses keep the invariant. -/

theorem inv_resetBlock {s : State} (h : s.params.valid = true) : Inv (resetBlock s) where
  params := h
  hardwired := by simp [resetBlock, State.resetWith]
  objects := by
    rw [objectsWf_iff]
    refine ⟨fun k m hm => ?_, fun k v hv => ?_, fun k p hp => ?_⟩
    · exact absurd (((isReset_resetBlock s).m k).symm.trans hm) nofun
    · exact absurd (((isReset_resetBlock s).v k).symm.trans hv) nofun
    · exact absurd (((isReset_resetBlock s).p k).symm.trans hp) nofun
  context := rfl
  solver := by simp [resetBlock, State.resetWith, Solver.wf]
  solution := nofun
  queue := Nat.zero_le _
  faulted := nofun
  record _ := ⟨rfl, rfl⟩

theorem inv_push {s : State} (h : Inv s) (w : Word) : Inv (push w s) := by
  by_cases hdrop : s.status.fault = true ∨ s.params.qDepth ≤ s.queue.length
  · rw [push_dropped hdrop]
    exact { h with }
  · obtain ⟨hf, hq⟩ := not_or.mp hdrop
    rw [push_appended (Bool.eq_false_iff.mpr hf) (Nat.lt_of_not_le hq)]
    refine { h with queue := ?_, faulted := fun hfault => absurd hfault hf }
    rw [List.length_append]
    exact Nat.lt_of_not_le hq

theorem inv_acknowledge {s : State} (h : Inv s) (w : Word) : Inv (acknowledge w s) :=
  { h with faulted := fun hf => h.faulted (Bool.and_eq_true_iff.mp hf).1 }

/-- What the data window reaches, and where it stands (R50). -/
theorem State.selected_cases (s : State) : s.selected = .nothing ∨
    (∃ m, s.getM s.dwsel.slot = some m ∧ s.selected = .matrix m) ∨
    (∃ v, s.getV s.dwsel.slot = some v ∧ s.selected = .vector v) ∨
    ∃ p, s.getP s.dwsel.slot = some p ∧ s.selected = .indexList p := by
  unfold State.selected
  split
  · cases hm : s.getM s.dwsel.slot with
    | none => exact .inl rfl
    | some m => exact .inr (.inl ⟨m, rfl, rfl⟩)
  · cases hv : s.getV s.dwsel.slot with
    | none => exact .inl rfl
    | some v => exact .inr (.inr (.inl ⟨v, rfl, rfl⟩))
  · cases hp : s.getP s.dwsel.slot with
    | none => exact .inl rfl
    | some p => exact .inr (.inr (.inr ⟨p, rfl, rfl⟩))
  · exact .inl rfl

theorem inv_writeDwData {s : State} (h : Inv s) (w : Word) : Inv (writeDwData w s) := by
  unfold writeDwData
  split
  · exact { h with }
  · split
    · obtain hsel | ⟨m, hm, hsel⟩ | ⟨v, hv, hsel⟩ | ⟨p, hp, hsel⟩ := s.selected_cases <;> rw [hsel]
      · exact { h with }
      · exact { (commits_withElems hm _).inv h with }
      · exact { (commits_newVector s.dwsel.slot _ fun _ => h.vector hv).inv h with }
      · exact { (commits_newIndex s.dwsel.slot _ fun _ => h.indexList hp).inv h with }
    · exact { h with }

theorem inv_writeWindow {s : State} (h : Inv s) (off : Nat) (w : Word) : Inv (writeWindow off w s) := by
  unfold writeWindow
  split
  · unfold writeCtrl
    split
    · exact inv_resetBlock h.params
    · exact { h with }
  · exact inv_acknowledge h w
  · exact inv_push h w
  · exact { h with }
  · exact { h with }
  · exact inv_writeDwData h w
  · split
    · exact { h with }
    · exact h
  · split
    · split
      · exact { h with }
      · exact (commits_setX s _ w).inv h
    · exact h

theorem inv_readWindow {s : State} (h : Inv s) (off : Nat) (during : Bool) : Inv (readWindow off during s).2 := by
  obtain hs | ⟨-, hs⟩ | ⟨-, hs⟩ | ⟨-, a, hs⟩ := readWindow_state off during s
  · rw [hs]; exact h
  · rw [hs]; exact { h with }
  · rw [hs]; exact { h with }
  · rw [hs]; exact { h with }

theorem inv_hostAccess {s : State} (h : Inv s) (op : HostOp) (during : Bool) : Inv (hostAccess op during s) := by
  cases op with
  | read off bytes =>
    cases hok : accessOk off bytes with
    | true => rw [hostAccess_read_ok hok]; exact { inv_readWindow h off.toNat during with }
    | false => rw [hostAccess_read_busError hok]; exact { h with }
  | write off bytes w =>
    cases hok : accessOk off bytes with
    | true => rw [hostAccess_write_ok hok]; exact { inv_writeWindow h off.toNat w with }
    | false => rw [hostAccess_write_busError hok]; exact { h with }

theorem inv_step {s t : State} (h : Inv s) (ht : step s = .next t) : Inv t := by
  unfold step at ht
  split at ht
  next => exact inv_coreStep h ht
  next ev _ =>
    have hs : Inv { s with agenda := ev } := { h with }
    exact inv_coreStep hs ht
  next op during ev _ =>
    cases ht
    have hs : Inv { s with agenda := ev } := { h with }
    exact inv_hostAccess hs op during
  next op ev _ =>
    have hs : Inv { s with agenda := ev } := { h with }
    exact inv_coreStep (inv_hostAccess hs op true) ht
  next => cases ht; exact inv_resetBlock h.params

/-! The statements. -/

/-- Settles O6: `decode_encode`. -/
theorem decodeEncode : Obligations.DecodeEncode := by
  unfold Obligations.DecodeEncode
  exact fun _ => decode_encode

/-- Settles O8: the core's turn by `exec_endsWell`, the host's accesses by the window's map. -/
theorem invKeptByEveryStep : Obligations.InvKeptByEveryStep := by
  unfold Obligations.InvKeptByEveryStep
  exact fun _ _ => inv_step

/-- Settles O9: every outcome is a next state, and each core step takes a word from the queue or flushes it. -/
theorem queueAlwaysDrains : Obligations.QueueAlwaysDrains := by
  unfold Obligations.QueueAlwaysDrains
  refine ⟨step_next, fun s ha => ?_⟩
  obtain ⟨t, ht, hq⟩ := run_drains s.queue.length s ha le_rfl
  exact ⟨t, ht, hq, State.idle_of_queue hq⟩

/-- Settles O10: the two cases of `exec_cases`. -/
theorem retireOrFaultEntry : Obligations.RetireOrFaultEntry := by
  unfold Obligations.RetireOrFaultEntry
  intro i s
  obtain ⟨t, ht, hcommits⟩ | ⟨c, hc, -⟩ := exec_cases i s
  · exact .inl ⟨_, ht, hcommits.retires, hcommits.frame.retire⟩
  · exact .inr ⟨c, _, hc, faultEntry_takeFault c s⟩

/-- Settles O11: a fault's cause is one that the command's checks raise. -/
theorem causesAsTabled : Obligations.CausesAsTabled := by
  unfold Obligations.CausesAsTabled
  refine ⟨fun i c s hwf h => (allowed_of_faults h).raised hwf,
    ⟨rfl, rfl, rfl, rfl, rfl, rfl, rfl, rfl, rfl, rfl⟩, fun s t c h => ?_⟩
  rw [State.causeWord, h.cause]

/-- Settles O7: reset is the reset of itself, at sizes that meet R5. -/
theorem invHoldsAtReset : Obligations.InvHoldsAtReset := by
  unfold Obligations.InvHoldsAtReset
  have hvalid : State.reset.params.valid = true := by decide
  exact inv_resetBlock hvalid

end Sys2Proof.Machine
end

section
/-! PROOFS. The operand forms (30_encoding.md R104 to R107) as bit-vector operations, and the two families that touch
registers only: control (40_control.md) and GF(256) commands (41_gf256.md). -/

namespace Sys2Proof.Machine

/-! The operand forms. -/

theorem lowByte_eq (w : Word) : lowByte w = w.setWidth 8 := by
  apply BitVec.eq_of_toNat_eq
  simp [lowByte]

theorem element_eq (s : State) (n : XReg) : s.element n = (s.getX n).setWidth 8 := lowByte_eq _

theorem zextByte_eq (b : Byte) : zextByte b = b.setWidth 32 := by
  apply BitVec.eq_of_toNat_eq
  simp [zextByte]

theorem zextImm_eq (imm : BitVec 16) : zextImm imm = imm.setWidth 32 := by
  apply BitVec.eq_of_toNat_eq
  simp [zextImm]

theorem upperImm_eq (imm : BitVec 16) (w : Word) : upperImm imm w = imm ++ w.setWidth 16 := by
  apply BitVec.eq_of_toNat_eq
  have himm := imm.isLt
  have hor := Nat.two_pow_add_eq_or_of_lt (Nat.mod_lt w.toNat (by decide : 2 ^ 16 > 0)) imm.toNat
  rw [upperImm, BitVec.toNat_ofNat, BitVec.toNat_append, BitVec.toNat_setWidth, Nat.shiftLeft_eq,
    Nat.mul_comm imm.toNat, ← hor]
  omega

/-! A command whose checks pass completes with what it commits. -/

theorem completes_of_commits {i : Instr} {s t : State} {parts : List Part} {post : State → Prop}
    (h : exec i s = finish s (.ok t)) (hc : Commits parts s t) (hp : post (retire t)) : Completes i parts post s :=
  ⟨retire t, h, hc.retires, hc.frame.retire, hp⟩

/-- A command that writes w, or the same word spelt otherwise, to one register. -/
theorem completes_wrote {i : Instr} {s : State} {d : XReg} {v w : Word} (h : exec i s = finish s (.ok (s.setX d v)))
    (hvw : v = w) : Completes i [.x d] (Wrote d w) s :=
  hvw ▸ completes_setX h fun _ => id

theorem faults_of_result {i : Instr} {c : Cause} {s : State} {r : Result} (h : exec i s = finish s r)
    (hr : r = .error c) : Faults i c s :=
  faults_of_error (h.trans (congrArg (finish s) hr))

/-! Control commands (R121 to R128). -/

theorem nop_completes (s : State) : Completes .nop [] (fun _ => True) s :=
  completes_of_commits rfl (commits_refl [] s) trivial

theorem signal_completes (s : State) : Completes .signal [.signal] (fun t => t.status.signal = true) s :=
  completes_of_commits rfl (commits_signal s) rfl

/-- Settles O28: the operand readers are bit-vector truncation and value. -/
theorem operandForms : Obligations.OperandForms := by
  unfold Obligations.OperandForms
  exact ⟨fun s n => ⟨element_eq s n, rfl⟩, fun _ => ⟨rfl, rfl, rfl, rfl⟩⟩

/-- Settles O29: each command writes one register, its immediate read as the rule says. -/
theorem controlCommandsComplete : Obligations.ControlCommandsComplete := by
  unfold Obligations.ControlCommandsComplete
  intro s d a b imm
  exact ⟨nop_completes s, signal_completes s, completes_wrote rfl (zextImm_eq imm),
    completes_wrote rfl (upperImm_eq imm _), completes_wrote rfl rfl, completes_wrote rfl rfl,
    completes_wrote rfl rfl, completes_wrote rfl rfl⟩

/-! GF(256) commands (R149 to R156). -/

theorem exec_gdiv {s : State} {b : XReg} (d a : XReg) (hb : s.element b ≠ 0) :
    exec (.gdiv d a b) s =
      finish s (.ok (s.setX d (zextByte (gfMul (s.element a) (gfInvNz (s.element b)))))) :=
  congrArg (fun r => finish s (writeElement s d r)) (gfDiv_of_ne_zero (s.element a) hb)

theorem exec_ginv {s : State} {a : XReg} (d : XReg) (ha : s.element a ≠ 0) :
    exec (.ginv d a) s = finish s (.ok (s.setX d (zextByte (gfInvNz (s.element a))))) :=
  congrArg (fun r => finish s (writeElement s d r)) (gfInv_of_ne_zero ha)

theorem exec_glog {s : State} {a : XReg} (d : XReg) (ha : s.element a ≠ 0) :
    exec (.glog d a) s = finish s (.ok (s.setX d (countWord (logRom (s.element a))))) := by
  simp only [exec, execGlog, gfLog_of_ne_zero ha]

theorem gdiv_faults {s : State} {b : XReg} (d a : XReg) (hb : s.element b = 0) :
    Faults (.gdiv d a b) .divisionByZero s :=
  faults_of_result rfl (congrArg (writeElement s d) (if_pos hb))

theorem ginv_faults {s : State} {a : XReg} (d : XReg) (ha : s.element a = 0) :
    Faults (.ginv d a) .divisionByZero s :=
  faults_of_result rfl (congrArg (writeElement s d) (if_pos ha))

theorem glog_faults {s : State} {a : XReg} (d : XReg) (ha : s.element a = 0) :
    Faults (.glog d a) .illegalArgument s := by
  refine faults_of_error ?_
  simp only [exec, execGlog, gfLog, ha, if_true]

/-- Settles O30: each command writes what its field function gives, which the field's laws tie to `polyMul`. -/
theorem gfCommandsCompleteOrFault : Obligations.GfCommandsCompleteOrFault := by
  unfold Obligations.GfCommandsCompleteOrFault
  intro s d a b
  simp only [← element_eq, ← zextByte_eq]
  refine ⟨completes_wrote rfl ?_, completes_wrote rfl ?_, fun hb => ?_, gdiv_faults d a, fun ha => ?_,
    ginv_faults d, completes_wrote rfl ?_, fun ha => ?_, glog_faults d, completes_wrote rfl ?_⟩
  · rw [element_eq, element_eq, gfAdd, ← BitVec.setWidth_xor]
  · rw [gfMul_eq_polyMul]
  · refine completes_setX (exec_gdiv d a hb) fun t ht => ⟨_, ht, ?_⟩
    rw [← gfMul_eq_polyMul, gfMul_assoc, gfMul_comm (gfInvNz _), gfMul_gfInvNz hb, gfMul_one]
  · refine completes_setX (exec_ginv d ha) fun t ht => ⟨_, ht, ?_⟩
    rw [← gfMul_eq_polyMul, gfMul_comm, gfMul_gfInvNz ha]
  · rw [gfExp_eq_power]; rfl
  · exact completes_setX (exec_glog d ha) fun t ht => ⟨_, logRom_lt ha, ht, power_two_logRom ha⟩
  · rw [gfPow_eq_power]; rfl

end Sys2Proof.Machine
end

section
/-! PROOFS. Byte-vector commands (42_vector.md): the lists the meaning tabulates are the plain list functions of the
rules, and the checks come in the order of 60_exceptions.md R376. -/

namespace Sys2Proof.Machine

/-! Tabulated lists. -/

theorem tabulate_const {α : Type} (n : Nat) (a : α) : (List.range n).map (fun _ => a) = List.replicate n a := by
  rw [List.map_const', List.length_range]

theorem tabulate_set {α : Type} (u : List α) (z e : α) (i : Nat) :
    (List.range u.length).map (fun j => if j = i then e else u.getD j z) = u.set i e := by
  apply List.ext_getElem (by simp)
  intro k hk hk'
  have hlen : k < u.length := by simpa using hk
  simp only [List.getElem_map, List.getElem_range, List.getElem_set, List.getD_eq_getElem _ _ hlen,
    eq_comm (a := i)]

/-- Two entries exchanged, as two writes. -/
theorem tabulate_swap {α : Type} {u : List α} {i j : Nat} {b e : α} (z : α) (hi : u[i]? = some b)
    (hj : u[j]? = some e) :
    (List.range u.length).map (swapFn i j fun k => u.getD k z) = (u.set i e).set j b := by
  apply List.ext_getElem (by simp)
  intro k hk hk'
  have hlen : k < u.length := by simpa using hk
  have hi' : u.getD i z = b := by simp [List.getD, hi]
  have hj' : u.getD j z = e := by simp [List.getD, hj]
  simp only [List.getElem_map, List.getElem_range, List.getElem_set, swapFn, hi', hj',
    List.getD_eq_getElem _ _ hlen, eq_comm (b := k)]
  by_cases hki : k = i
  · by_cases hkj : k = j
    · have heb : e = b := Option.some.inj (hj.symm.trans ((hkj.symm.trans hki) ▸ hi))
      rw [if_pos hki, if_pos hkj, heb]
    · rw [if_pos hki, if_neg hkj, if_pos hki]
  · rw [if_neg hki, if_neg hki]

theorem newVector_set (u : List Byte) (i : Nat) (e : Byte) :
    newVector u.length (fun j => if j = i then e else vecAt u j) = u.set i e := tabulate_set u 0 e i

theorem newVector_swap {u : List Byte} {i j : Nat} {b e : Byte} (hi : u[i]? = some b) (hj : u[j]? = some e) :
    newVector u.length (swapFn i j (vecAt u)) = (u.set i e).set j b := tabulate_swap 0 hi hj

theorem newVector_slice (u : List Byte) {lo hi : Nat} (hhi : hi ≤ u.length) :
    newVector (hi - lo) (fun k => vecAt u (lo + k)) = (u.take hi).drop lo := by
  apply List.ext_getElem (by simp [hhi])
  intro k hk hk'
  rw [newVector_length] at hk
  have hlen : lo + k < u.length := by omega
  simp [newVector, vecAt, hlen]

theorem newVector_select (u : List Byte) (p : List Word) :
    newVector p.length (fun k => vecAt u (indexAt p k).toNat) = p.map fun w => u.getD w.toNat 0 := by
  apply List.ext_getElem (by simp)
  intro k hk hk'
  rw [newVector_length] at hk
  simp [newVector, vecAt, indexAt, hk]

theorem vecAt_of_getElem? {u : List Byte} {k : Nat} {b : Byte} (h : u[k]? = some b) : vecAt u k = b := by
  simp [vecAt, List.getD, h]

theorem lt_length_of_getElem? {α : Type} {u : List α} {k : Nat} {b : α} (h : u[k]? = some b) : k < u.length :=
  (List.getElem?_eq_some_iff.mp h).1

/-! Checks, by what they decide. -/

theorem require_pos {h : Prop} [Decidable h] (hh : h) (c : Cause) (k : Result) : require (decide h) c k = k := by
  rw [decide_eq_true hh, require_true]

theorem require_neg {h : Prop} [Decidable h] (hh : ¬ h) (c : Cause) (k : Result) :
    require (decide h) c k = .error c := by
  rw [decide_eq_false hh, require_false]

theorem entriesBelow_iff (p : List Word) (bound : Nat) : entriesBelow p bound = true ↔ ∀ w ∈ p, w.toNat < bound := by
  simp [entriesBelow]

theorem entriesBelow_eq_false {p : List Word} {bound : Nat} (h : ∃ w ∈ p, bound ≤ w.toNat) :
    entriesBelow p bound = false := by
  obtain ⟨w, hw, hle⟩ := h
  exact Bool.eq_false_iff.mpr fun hall => (Nat.not_lt.mpr hle) ((entriesBelow_iff p bound).mp hall w hw)

/-! An `Unallocated` slot behind another operand: whatever that one is, the cause is `UnallocatedSlot` (R376). -/

theorem withV_unallocated {s : State} {k : VSlot} {f : List Byte → Result}
    (h : ∀ v, f v = .error .unallocatedSlot) : withV s k f = .error .unallocatedSlot := by
  cases hk : s.getV k with
  | none => exact withV_none hk f
  | some v => exact (withV_some hk f).trans (h v)

theorem withM_unallocated {s : State} {k : MSlot} {f : ByteMatrix → Result}
    (h : ∀ m, f m = .error .unallocatedSlot) : withM s k f = .error .unallocatedSlot := by
  cases hk : s.getM k with
  | none => exact withM_none hk f
  | some m => exact (withM_some hk f).trans (h m)

theorem withP_unallocated {s : State} {k : PSlot} {f : List Word → Result}
    (h : ∀ p, f p = .error .unallocatedSlot) : withP s k f = .error .unallocatedSlot := by
  cases hk : s.getP k with
  | none => exact withP_none hk f
  | some p => exact (withP_some hk f).trans (h p)

/-! Completion. -/

/-- A command that writes one vector slot, the vector spelt as the rule does. -/
theorem completes_vector {i : Instr} {s : State} {d : VSlot} {u v : List Byte} {r : Result}
    (h : exec i s = finish s r) (hr : r = .ok (s.setV d (some u))) (huv : u = v) :
    Completes i [.v d] (fun t => t.getV d = some v) s :=
  huv ▸ completes_setV (h.trans (congrArg (finish s) hr)) fun _ => id

/-- A command that writes one register behind its checks. -/
theorem completes_word {i : Instr} {s : State} {d : XReg} {v w : Word} {r : Result} (h : exec i s = finish s r)
    (hr : r = .ok (s.setX d v)) (hvw : v = w) : Completes i [.x d] (Wrote d w) s :=
  completes_wrote (h.trans (congrArg (finish s) hr)) hvw

/-- Settles O31: each command's checks pass, and what it tabulates is the rule's list. -/
theorem vectorAccessCompletes : Obligations.VectorAccessCompletes := by
  unfold Obligations.VectorAccessCompletes
  intro s d x n c u
  refine ⟨fun hn => completes_vector rfl (require_pos hn _ _) (tabulate_const _ _), fun hu => ⟨?_, ?_, fun b hb => ?_,
    fun hn => ?_, fun k => ?_, ?_, fun b e hb he => ?_⟩⟩
  · exact completes_setV (congrArg (finish s) (withV_some hu _)) fun _ => id
  · exact completes_word rfl (withV_some hu _) rfl
  · refine completes_word rfl ((withV_some hu _).trans (require_pos (lt_length_of_getElem? hb) _ _)) ?_
    rw [vecAt_of_getElem? hb, zextByte_eq]
  · exact completes_vector rfl ((withV_some hu _).trans (require_pos hn _ _)) (newVector_set u _ _)
  · exact completes_vector rfl (withV_some hu _) (newVector_vecAt u)
  · exact completes_vector rfl (withV_some hu _) (tabulate_const _ _)
  · have hin := And.intro (lt_length_of_getElem? hb) (lt_length_of_getElem? he)
    exact completes_vector rfl ((withV_some hu _).trans (require_pos hin _ _)) (newVector_swap hb he)

theorem withV_withV_some {s : State} {a b : VSlot} {u w : List Byte} (hu : s.getV a = some u)
    (hw : s.getV b = some w) (f : List Byte → List Byte → Result) :
    (withV s a fun x => withV s b (f x)) = f u w := by
  rw [withV_some hu, withV_some hw]

theorem vectorBinary_ok {s : State} {a b : VSlot} {u w : List Byte} (f : Byte → Byte → Byte) (d : VSlot)
    (hu : s.getV a = some u) (hw : s.getV b = some w) (h : u.length = w.length) :
    vectorBinary f d a b s = .ok (s.setV d (some (List.zipWith f u w))) := by
  rw [vectorBinary, withV_withV_some hu hw, require_pos h, newVector_zip u w f h]

theorem gfMul_funext : gfMul = polyMul := funext₂ gfMul_eq_polyMul

/-- The sum of R148, as `VDOT` writes it. -/
theorem gfSum_products (u w : List Byte) (h : u.length = w.length) :
    gfSum ((List.range u.length).map fun k => gfMul (vecAt u k) (vecAt w k)) =
      (List.zipWith polyMul u w).foldl (fun acc p => acc ^^^ p) 0 := by
  have hzip : (List.range u.length).map (fun k => gfMul (vecAt u k) (vecAt w k)) = List.zipWith polyMul u w := by
    rw [← gfMul_funext]
    exact newVector_zip u w gfMul h
  rw [hzip, gfSum_eq_foldl]
  exact BitVec.zero_xor.symm

/-- A quotient times its divisor is the dividend (R174, R266). -/
theorem polyMul_gfDivNz (a : Byte) {b : Byte} (hb : b ≠ 0) : polyMul b (gfDivNz a b) = a := by
  rw [gfDivNz_eq a hb, ← gfMul_eq_polyMul, gfMul_comm, gfMul_assoc, gfMul_comm _ b, gfMul_gfInvNz hb, gfMul_one]

/-- Settles O32: the tabulated lists are the maps and zips of the rules, and a quotient is undone by its divisor. -/
theorem vectorArithmeticCompletes : Obligations.VectorArithmeticCompletes := by
  unfold Obligations.VectorArithmeticCompletes
  intro s d a b x c u w hu hw
  refine ⟨fun h => ⟨?_, ?_, ?_, ?_⟩, ?_, ?_, fun hc => ?_⟩
  · exact completes_vector rfl (vectorBinary_ok gfAdd d hu hw h) rfl
  · exact completes_vector rfl (vectorBinary_ok gfMul d hu hw h) (by rw [gfMul_funext])
  · refine completes_vector rfl ((withV_withV_some hu hw _).trans (require_pos h.symm _ _)) ?_
    rw [newVector_zip u w (fun y p => gfAdd y (gfMul (s.element c) p)) h, gfMul_funext]
    rfl
  · refine completes_word rfl ((withV_withV_some hu hw _).trans (require_pos h _ _)) ?_
    rw [zextByte_eq, gfSum_products u w h]
  · exact completes_vector rfl (withV_some hu _) (newVector_map u fun p => gfAdd p (s.element c))
  · refine completes_vector rfl (withV_some hu _) ?_
    rw [newVector_map u (gfMul (s.element c)), gfMul_funext]
  · refine completes_setV (congrArg (finish s) ((withV_some hu _).trans
      (congrArg (require · _ _) (bne_iff_ne.mpr hc)))) fun t ht => ⟨_, ht, ?_⟩
    rw [newVector_map u (gfDivNz · (s.element c)), List.map_map]
    exact List.map_id'' (fun p => polyMul_gfDivNz p hc) u

/-- Settles O33: a slice is a `take` and a `drop`, a selection a `map`. -/
theorem vectorSelectionCompletes : Obligations.VectorSelectionCompletes := by
  unfold Obligations.VectorSelectionCompletes
  intro s d a i x lo hi u p hu
  refine ⟨fun hlo hhi => ⟨?_, ?_⟩, fun hp hbelow hlen => ?_⟩
  · exact completes_vector rfl ((withV_some hu _).trans (require_pos ⟨hlo, hhi⟩ _ _)) (newVector_slice u hhi)
  · refine completes_word rfl ((withV_some hu _).trans (require_pos ⟨hlo, hhi⟩ _ _)) ?_
    rw [newVector_slice u hhi, countNonzero, countWord]
    congr 2
    funext t
    simp [bne, beq_eq_decide]
  · refine completes_vector rfl ?_ (newVector_select u p)
    rw [withV_some hu, withP_some hp, (entriesBelow_iff p u.length).mpr hbelow, require_true, require_pos hlen]

/-! Faults. -/

/-- Settles O34: the first check that fails gives the cause. -/
theorem vectorFaultsInOrder : Obligations.VectorFaultsInOrder := by
  unfold Obligations.VectorFaultsInOrder
  intro s d a b i x n c
  refine ⟨fun h => faults_of_result rfl (require_neg (Nat.not_le.mpr h) _ _), fun ha => ?_, fun hi => ?_,
    fun u hu => ⟨fun w hw hne => ?_, fun hn => ?_, fun hrange => ?_, fun hc => ?_, fun p hp => ⟨fun hbad => ?_,
      fun hbelow hlen => ?_⟩⟩⟩
  · have first (f : List Byte → Result) : withV s a f = .error .unallocatedSlot := withV_none ha f
    have second (k : VSlot) (f : List Byte → List Byte → Result) :
        (withV s k fun u => withV s a (f u)) = .error .unallocatedSlot := withV_unallocated fun _ => first _
    exact ⟨faults_of_result rfl (first _), faults_of_result rfl (first _), faults_of_result rfl (first _),
      faults_of_result rfl (first _), faults_of_result rfl (first _), faults_of_result rfl (first _),
      faults_of_result rfl (first _), faults_of_result rfl (second b _), faults_of_result rfl (first _),
      faults_of_result rfl (first _), faults_of_result rfl (first _), faults_of_result rfl (first _),
      faults_of_result rfl (second b _), faults_of_result rfl (first _), faults_of_result rfl (second b _),
      faults_of_result rfl (first _), faults_of_result rfl (second b _), faults_of_result rfl (first _),
      faults_of_result rfl (first _), faults_of_result rfl (first _), faults_of_result rfl (first _)⟩
  · exact faults_of_result rfl (withV_unallocated fun _ => withP_none hi _)
  · have both (f : List Byte → List Byte → Result) : (withV s a fun x => withV s b (f x)) = f u w :=
      withV_withV_some hu hw f
    exact ⟨faults_of_result rfl ((both _).trans (require_neg hne _ _)),
      faults_of_result rfl ((both _).trans (require_neg hne _ _)),
      faults_of_result rfl ((both _).trans (require_neg (Ne.symm hne) _ _)),
      faults_of_result rfl ((both _).trans (require_neg hne _ _))⟩
  · have hn' := Nat.not_lt.mpr hn
    exact ⟨faults_of_result rfl ((withV_some hu _).trans (require_neg hn' _ _)),
      faults_of_result rfl ((withV_some hu _).trans (require_neg hn' _ _)),
      faults_of_result rfl ((withV_some hu _).trans (require_neg (fun h => hn' h.1) _ _)),
      faults_of_result rfl ((withV_some hu _).trans (require_neg (fun h => hn' h.2) _ _))⟩
  · exact ⟨faults_of_result rfl ((withV_some hu _).trans (require_neg hrange _ _)),
      faults_of_result rfl ((withV_some hu _).trans (require_neg hrange _ _))⟩
  · refine faults_of_result rfl ((withV_some hu _).trans ?_)
    rw [hc]
    rfl
  · refine faults_of_result rfl ?_
    rw [withV_some hu, withP_some hp, entriesBelow_eq_false hbad, require_false]
  · refine faults_of_result rfl ?_
    rw [withV_some hu, withP_some hp, (entriesBelow_iff p u.length).mpr hbelow, require_true,
      require_neg (Nat.not_le.mpr hlen)]

end Sys2Proof.Machine
end

section
/-! PROOFS. Index-list commands (43_index.md R201 to R209). -/

namespace Sys2Proof.Machine

theorem newIndex_set (p : List Word) (i : Nat) (w : Word) :
    newIndex p.length (fun j => if j = i then w else indexAt p j) = p.set i w := tabulate_set p 0 w i

theorem newIndex_swap {p : List Word} {i j : Nat} {v w : Word} (hi : p[i]? = some v) (hj : p[j]? = some w) :
    newIndex p.length (swapFn i j (indexAt p)) = (p.set i w).set j v := tabulate_swap 0 hi hj

theorem indexAt_of_getElem? {p : List Word} {k : Nat} {w : Word} (h : p[k]? = some w) : indexAt p k = w := by
  simp [indexAt, List.getD, h]

/-! Permutations (R208). -/

/-- n entries that hold each of 0 to n - 1 once are a rearrangement of them: those n values are among the entries, and
there is no room for another. -/
theorem isPermutation_iff (p : List Word) :
    isPermutation p = true ↔ (p.map BitVec.toNat).Perm (List.range p.length) := by
  simp only [isPermutation, List.all_eq_true, List.mem_range, beq_iff_eq]
  constructor
  · intro h
    have hsub : List.range p.length ⊆ p.map BitVec.toNat := fun j hj => by
      have hcount := h j (List.mem_range.mp hj)
      exact List.count_pos_iff.mp (hcount ▸ Nat.one_pos)
    have hlen : (p.map BitVec.toNat).length ≤ (List.range p.length).length := by simp
    exact ((List.subperm_of_subset List.nodup_range hsub).perm_of_length_le hlen).symm
  · intro h j hj
    rw [h.count_eq]
    exact List.count_eq_one_of_mem List.nodup_range (List.mem_range.mpr hj)

/-- In a permutation the position of the entry at k is k. -/
theorem positionOf_getElem {p : List Word} (h : (p.map BitVec.toNat).Perm (List.range p.length)) {k : Nat} {w : Word}
    (hk : p[k]? = some w) : positionOf p w.toNat = k := by
  have hnodup : (p.map BitVec.toNat).Nodup := h.nodup_iff.mpr List.nodup_range
  have hlen : k < (p.map BitVec.toNat).length := by
    rw [List.length_map]
    exact lt_length_of_getElem? hk
  have hget : (p.map BitVec.toNat)[k] = w.toNat := by
    rw [List.getElem_map, (List.getElem?_eq_some_iff.mp hk).2]
  rw [positionOf, ← hget]
  exact hnodup.idxOf_getElem k hlen

/-- The entries of a permutation are below its length. -/
theorem toNat_lt_of_perm {p : List Word} (h : (p.map BitVec.toNat).Perm (List.range p.length)) {k : Nat} {w : Word}
    (hk : p[k]? = some w) : w.toNat < p.length := by
  have hmem : w.toNat ∈ p.map BitVec.toNat := List.mem_map_of_mem (List.mem_of_getElem? hk)
  exact List.mem_range.mp (h.mem_iff.mp hmem)

/-- A command that writes one index-list slot, the list spelt as the rule does. -/
theorem completes_list {i : Instr} {s : State} {d : PSlot} {p q : List Word} {r : Result}
    (h : exec i s = finish s r) (hr : r = .ok (s.setP d (some p))) (hpq : p = q) :
    Completes i [.p d] (fun t => t.getP d = some q) s :=
  hpq ▸ completes_setP (h.trans (congrArg (finish s) hr)) fun _ => id

/-- Settles O35: completion by what each command tabulates, the faults by the first check that fails. -/
theorem indexCommandsCompleteOrFault : Obligations.IndexCommandsCompleteOrFault := by
  unfold Obligations.IndexCommandsCompleteOrFault
  intro s d a x n c p
  refine ⟨fun hn => completes_list rfl (require_pos hn _ _) rfl, fun hp => ⟨?_, ?_, fun w hw => ?_, fun hn => ?_,
    fun v w hv hw => ?_, fun hperm => ?_, ?_⟩, fun hn => faults_of_result rfl (require_neg (Nat.not_le.mpr hn) _ _),
    fun ha => ?_, fun hp => ⟨fun hn => ?_, fun hperm => ?_⟩⟩
  · exact completes_setP (congrArg (finish s) (withP_some hp _)) fun _ => id
  · exact completes_word rfl (withP_some hp _) rfl
  · exact completes_word rfl ((withP_some hp _).trans (require_pos (lt_length_of_getElem? hw) _ _))
      (indexAt_of_getElem? hw)
  · exact completes_list rfl ((withP_some hp _).trans (require_pos hn _ _)) (newIndex_set p _ _)
  · have hin := And.intro (lt_length_of_getElem? hv) (lt_length_of_getElem? hw)
    exact completes_list rfl ((withP_some hp _).trans (require_pos hin _ _)) (newIndex_swap hv hw)
  · refine completes_setP (congrArg (finish s) ((withP_some hp _).trans
      (congrArg (require · _ _) ((isPermutation_iff p).mpr hperm)))) fun t ht => ⟨_, ht, newIndex_length .., ?_⟩
    intro k w hk
    rw [newIndex_get _ _ _ (toNat_lt_of_perm hperm hk), positionOf_getElem hperm hk]
    rfl
  · exact completes_list rfl (withP_some hp _) (newIndex_indexAt p)
  · have first (f : List Word → Result) : withP s a f = .error .unallocatedSlot := withP_none ha f
    exact ⟨faults_of_result rfl (first _), faults_of_result rfl (first _), faults_of_result rfl (first _),
      faults_of_result rfl (first _), faults_of_result rfl (first _), faults_of_result rfl (first _),
      faults_of_result rfl (first _)⟩
  · have hn' := Nat.not_lt.mpr hn
    exact ⟨faults_of_result rfl ((withP_some hp _).trans (require_neg hn' _ _)),
      faults_of_result rfl ((withP_some hp _).trans (require_neg hn' _ _)),
      faults_of_result rfl ((withP_some hp _).trans (require_neg (fun h => hn' h.1) _ _)),
      faults_of_result rfl ((withP_some hp _).trans (require_neg (fun h => hn' h.2) _ _))⟩
  · have hnot : isPermutation p = false := Bool.eq_false_iff.mpr fun h => hperm ((isPermutation_iff p).mp h)
    exact faults_of_result rfl ((withP_some hp _).trans (congrArg (require · _ _) hnot))

end Sys2Proof.Machine
end

section
/-! PROOFS. Sums of products over the field (41_gf256.md R148): `dot` is linear in each argument. -/

namespace Sys2Proof.Machine

/-! The field laws once more, over exclusive or. -/

theorem gfMul_xor (a b c : Byte) : gfMul a (b ^^^ c) = gfMul a b ^^^ gfMul a c := gfMul_gfAdd a b c

theorem xor_gfMul (a b c : Byte) : gfMul (a ^^^ b) c = gfMul a c ^^^ gfMul b c := by
  rw [gfMul_comm, gfMul_xor, gfMul_comm c a, gfMul_comm c b]

theorem one_gfMul (a : Byte) : gfMul 1 a = a := (gfMul_comm 1 a).trans (gfMul_one a)

theorem gfMul_left_comm (a b c : Byte) : gfMul a (gfMul b c) = gfMul b (gfMul a c) := by
  rw [← gfMul_assoc, gfMul_comm a b, gfMul_assoc]

theorem xor_eq_zero_iff {a b : Byte} : a ^^^ b = 0 ↔ a = b := BitVec.xor_eq_zero_iff

/-! One term more. -/

theorem dot_succ (n : Nat) (f g : Nat → Byte) : dot (n + 1) f g = dot n f g ^^^ gfMul (f n) (g n) := by
  simp [dot, List.range_succ]

theorem dot_congr {n : Nat} {f f' g g' : Nat → Byte} (hf : ∀ k, k < n → f k = f' k) (hg : ∀ k, k < n → g k = g' k) :
    dot n f g = dot n f' g' := by
  induction n with
  | zero => rfl
  | succ n ih =>
    rw [dot_succ, dot_succ, ih (fun k hk => hf k (by omega)) fun k hk => hg k (by omega), hf n (by omega),
      hg n (by omega)]

theorem dot_comm (n : Nat) (f g : Nat → Byte) : dot n f g = dot n g f := by
  induction n with
  | zero => rfl
  | succ n ih => rw [dot_succ, dot_succ, ih, gfMul_comm]

/-! Linearity. -/

theorem dot_xor_left (n : Nat) (f f' g : Nat → Byte) :
    dot n (fun k => f k ^^^ f' k) g = dot n f g ^^^ dot n f' g := by
  induction n with
  | zero => exact (xor_eq_zero_iff.mpr rfl).symm
  | succ n ih =>
    simp only [dot_succ, ih, xor_gfMul]
    ac_rfl

theorem dot_mul_left (n : Nat) (b : Byte) (f g : Nat → Byte) :
    dot n (fun k => gfMul b (f k)) g = gfMul b (dot n f g) := by
  induction n with
  | zero => exact (gfMul_zero_right b).symm
  | succ n ih => rw [dot_succ, dot_succ, ih, gfMul_xor, gfMul_assoc]

theorem dot_zero_left (n : Nat) (g : Nat → Byte) : dot n (fun _ => 0) g = 0 := by
  induction n with
  | zero => rfl
  | succ n ih => rw [dot_succ, ih, gfMul_zero_left, xor_eq_zero_iff]

/-- A sum with one term. -/
theorem dot_single (n c : Nat) (b : Byte) (f : Nat → Byte) :
    dot n (fun k => if k = c then b else 0) f = if c < n then gfMul b (f c) else 0 := by
  induction n with
  | zero => rfl
  | succ n ih =>
    rw [dot_succ, ih]
    obtain h | h | h := Nat.lt_trichotomy c n
    · rw [if_pos h, if_neg h.ne', gfMul_zero_left, if_pos (by omega)]
      exact BitVec.xor_zero
    · subst h
      rw [if_neg (lt_irrefl c), if_pos rfl, if_pos (Nat.lt_succ_self c)]
      exact BitVec.zero_xor
    · rw [if_neg (by omega), if_neg h.ne, gfMul_zero_left, if_neg (by omega), xor_eq_zero_iff]

/-- Two sums exchanged: the product of three matrices has one meaning. -/
theorem dot_dot (m n : Nat) (f h : Nat → Byte) (g : Nat → Nat → Byte) :
    dot m f (fun k => dot n (g k) h) = dot n (fun l => dot m f fun k => g k l) h := by
  induction m with
  | zero => exact (dot_zero_left n h).symm
  | succ m ih => simp only [dot_succ, dot_xor_left, dot_mul_left, ih]

end Sys2Proof.Machine
end

section
/-! PROOFS. Byte-matrix store commands (44_matrix_store.md). -/

namespace Sys2Proof.Machine

/-- A command that writes one matrix slot, its elements spelt as the rule does. -/
theorem completes_matrix {i : Instr} {s : State} {d : MSlot} {rows cols : Nat} {rep : MRepr}
    {f g : Nat → Nat → Byte} {r : Result} (h : exec i s = finish s r)
    (hr : r = .ok (s.setM d (some (newMatrix rows cols rep f))))
    (hfg : ∀ i j, i < rows → j < cols → f i j = g i j) :
    Completes i [.m d] (fun t => HasElems (t.getM d) rows cols rep g) s :=
  completes_setM (h.trans (congrArg (finish s) hr)) fun _ ht => ht ▸ hasElems_newMatrix hfg

/-- A command that writes one vector slot, its elements spelt as the rule does. -/
theorem completes_bytes {i : Instr} {s : State} {d : VSlot} {n : Nat} {f g : Nat → Byte} {r : Result}
    (h : exec i s = finish s r) (hr : r = .ok (s.setV d (some (newVector n f)))) (hfg : ∀ k, k < n → f k = g k) :
    Completes i [.v d] (fun t => HasBytes (t.getV d) n g) s :=
  completes_setV (h.trans (congrArg (finish s) hr)) fun _ ht => ht ▸ hasBytes_newVector hfg

/-! Rectangles (R221, R247). -/

theorem rectOk_iff (m : ByteMatrix) (r0 c0 r1 c1 : Nat) :
    rectOk m r0 c0 r1 c1 = true ↔ r0 ≤ r1 ∧ r1 ≤ m.rows ∧ c0 ≤ c1 ∧ c1 ≤ m.cols := by
  simp only [rectOk, rangeOk, Bool.and_eq_true, decide_eq_true_eq, and_assoc]

theorem rectOk_eq_false {m : ByteMatrix} {r0 c0 r1 c1 : Nat}
    (h : ¬ (r0 ≤ r1 ∧ r1 ≤ m.rows ∧ c0 ≤ c1 ∧ c1 ≤ m.cols)) : rectOk m r0 c0 r1 c1 = false :=
  Bool.eq_false_iff.mpr fun hok => h ((rectOk_iff m r0 c0 r1 c1).mp hok)

/-- The non-zero elements of a row between two columns, counted along the row. -/
theorem countNonzero_row (m : ByteMatrix) (c0 c1 i : Nat) :
    countNonzero ((List.range (c1 - c0)).map fun j => m.e i (c0 + j)) = degreeOf m c0 c1 i := by
  rw [countNonzero, List.countP_map, degreeOf, Finset.card_filter, Finset.sum_Ico_eq_sum_range]
  induction c1 - c0 with
  | zero => rfl
  | succ n ih =>
    rw [List.range_succ, List.countP_append, ih, Finset.sum_range_succ, List.countP_singleton]
    simp [bne]

/-- The non-zero elements of a rectangle, counted row by row. -/
theorem countNonzero_rectElems (m : ByteMatrix) (r0 c0 r1 c1 : Nat) :
    countNonzero (m.rectElems r0 c0 r1 c1) = nonzeroPositions m r0 c0 r1 c1 := by
  have hrows : nonzeroPositions m r0 c0 r1 c1 = ∑ i ∈ Finset.range (r1 - r0), degreeOf m c0 c1 (r0 + i) := by
    rw [nonzeroPositions, Finset.card_filter, Finset.sum_product, Finset.sum_Ico_eq_sum_range]
    simp only [degreeOf, Finset.card_filter]
  rw [hrows, ByteMatrix.rectElems]
  induction r1 - r0 with
  | zero => rfl
  | succ n ih =>
    rw [List.range_succ, List.flatMap_append, List.flatMap_singleton, Finset.sum_range_succ, ← ih,
      ← countNonzero_row, countNonzero, countNonzero, countNonzero, List.countP_append]

theorem readRect_ok {s : State} {b : MSlot} {m : ByteMatrix} {r0 c0 r1 c1 : XReg} (d : XReg) (f : List Byte → Word)
    (hm : s.getM b = some m)
    (h : s.index r0 ≤ s.index r1 ∧ s.index r1 ≤ m.rows ∧ s.index c0 ≤ s.index c1 ∧ s.index c1 ≤ m.cols) :
    readRect d b r0 c0 r1 c1 f s =
      .ok (s.setX d (f (m.rectElems (s.index r0) (s.index c0) (s.index r1) (s.index c1)))) := by
  rw [readRect, withM_some hm, (rectOk_iff ..).mpr h, require_true]

theorem readRect_outOfRange {s : State} {b : MSlot} {m : ByteMatrix} {r0 c0 r1 c1 : XReg} (d : XReg)
    (f : List Byte → Word) (hm : s.getM b = some m)
    (h : ¬ (s.index r0 ≤ s.index r1 ∧ s.index r1 ≤ m.rows ∧ s.index c0 ≤ s.index c1 ∧ s.index c1 ≤ m.cols)) :
    readRect d b r0 c0 r1 c1 f s = .error .indexOutOfRange := by
  rw [readRect, withM_some hm, rectOk_eq_false h, require_false]

/-- Settles O36: allocation builds the pattern asked for, and the reads write what they read. -/
theorem matrixAllocationAndReadsComplete : Obligations.MatrixAllocationAndReadsComplete := by
  unfold Obligations.MatrixAllocationAndReadsComplete
  intro s d a x r c r1 c1 rep ini
  refine ⟨fun hr hc => ?_, fun m hm => ⟨?_, ?_, ?_, ?_, fun hr hc => ?_, fun hr hr1 hc hc1 => ?_⟩⟩
  · refine completes_matrix rfl (require_pos ⟨hr, hc⟩ _ _) fun i j _ _ => ?_
    cases ini <;> simp [identityAt]
  · exact completes_setM (congrArg (finish s) (withM_some hm _)) fun _ => id
  · exact completes_word rfl (withM_some hm _) rfl
  · exact completes_word rfl (withM_some hm _) rfl
  · refine completes_word rfl (withM_some hm _) ?_
    cases m.repr <;> rfl
  · exact completes_word rfl ((withM_some hm _).trans (require_pos ⟨hr, hc⟩ _ _)) (zextByte_eq _)
  · exact completes_word rfl (readRect_ok x _ hm ⟨hr, hr1, hc, hc1⟩)
      (congrArg (BitVec.ofNat 32) (countNonzero_rectElems ..))

/-- Settles O37: each command rebuilds the matrix with the elements it names. -/
theorem matrixRowsAndColumnsComplete : Obligations.MatrixRowsAndColumnsComplete := by
  unfold Obligations.MatrixRowsAndColumnsComplete
  intro s a k r c y m hm
  refine ⟨fun hr hc => ?_, fun hr => ?_, fun hc => ?_, fun v hv hlen hr => ?_, fun v hv hlen hc => ?_,
    fun hr hc => ?_, fun hr hc => ?_⟩
  · exact completes_matrix rfl ((withM_some hm _).trans (require_pos ⟨hr, hc⟩ _ _)) fun _ _ _ _ => rfl
  · exact completes_bytes rfl ((withM_some hm _).trans (require_pos hr _ _)) fun _ _ => rfl
  · exact completes_bytes rfl ((withM_some hm _).trans (require_pos hc _ _)) fun _ _ => rfl
  · refine completes_matrix rfl ?_ fun _ _ _ _ => rfl
    rw [withM_some hm, withV_some hv, require_pos hlen, require_pos hr]
    rfl
  · refine completes_matrix rfl ?_ fun _ _ _ _ => rfl
    rw [withM_some hm, withV_some hv, require_pos hlen, require_pos hc]
    rfl
  · exact completes_matrix rfl ((withM_some hm _).trans (require_pos ⟨hr, hc⟩ _ _))
      fun i j _ _ => congrFun (swapFn_eq _ _ m.e i) j
  · exact completes_matrix rfl ((withM_some hm _).trans (require_pos ⟨hr, hc⟩ _ _))
      fun i j _ _ => swapFn_eq _ _ (m.e i) j

theorem sliceInto_ok {s : State} {b : MSlot} {m : ByteMatrix} {r0 c0 r1 c1 : ByteMatrix → Nat} (d : MSlot)
    (hm : s.getM b = some m) (h : r0 m ≤ r1 m ∧ r1 m ≤ m.rows ∧ c0 m ≤ c1 m ∧ c1 m ≤ m.cols) :
    sliceInto d b r0 c0 r1 c1 s = .ok (s.setM d (some (newMatrix (r1 m - r0 m) (c1 m - c0 m) m.repr
      fun i j => m.e (r0 m + i) (c0 m + j)))) := by
  rw [sliceInto, withM_some hm, (rectOk_iff ..).mpr h, require_true]

theorem sliceInto_outOfRange {s : State} {b : MSlot} {m : ByteMatrix} {r0 c0 r1 c1 : ByteMatrix → Nat} (d : MSlot)
    (hm : s.getM b = some m) (h : ¬ (r0 m ≤ r1 m ∧ r1 m ≤ m.rows ∧ c0 m ≤ c1 m ∧ c1 m ≤ m.cols)) :
    sliceInto d b r0 c0 r1 c1 s = .error .indexOutOfRange := by
  rw [sliceInto, withM_some hm, rectOk_eq_false h, require_false]

/-- Settles O38: each result is built from the source's elements at the rule's position. -/
theorem matrixRearrangementsComplete : Obligations.MatrixRearrangementsComplete := by
  unfold Obligations.MatrixRearrangementsComplete
  intro s d a pr pc r0 c0 r1 c1 rep m ri ci hm
  refine ⟨?_, ?_, ?_, fun hr hr1 hc hc1 => ?_, fun hr hc => ?_, fun hr hc => ?_,
    fun hri hrows hlen => ⟨?_, fun hci hcols hlen' => ?_⟩, fun hci hcols hlen => ?_⟩
  · exact completes_matrix rfl (withM_some hm _) fun _ _ _ _ => rfl
  · exact completes_matrix rfl (withM_some hm _) fun _ _ _ _ => rfl
  · refine completes_setM (congrArg (finish s) (withM_some hm _)) fun t ht =>
      ⟨_, ht ▸ hasElems_newMatrix fun _ _ _ _ => rfl, fun i j hi _ => ?_⟩
    have hback : m.rows - 1 - (m.rows - 1 - i) = i := by omega
    simp only [hback]
  · exact completes_matrix rfl (sliceInto_ok d hm ⟨hr, hr1, hc, hc1⟩) fun _ _ _ _ => rfl
  · refine completes_matrix rfl (sliceInto_ok d hm ⟨Nat.zero_le _, hr, Nat.zero_le _, hc⟩) fun i j _ _ => ?_
    rw [Nat.zero_add, Nat.zero_add]
  · exact completes_matrix rfl (sliceInto_ok d hm ⟨hr, le_rfl, hc, le_rfl⟩) fun _ _ _ _ => rfl
  · refine completes_matrix rfl ?_ fun _ _ _ _ => rfl
    rw [withM_some hm, withP_some hri, (entriesBelow_iff ..).mpr hrows, require_true, require_pos hlen]
    rfl
  · refine completes_matrix rfl ?_ fun _ _ _ _ => rfl
    rw [withM_some hm, withP_some hri, withP_some hci, (entriesBelow_iff ..).mpr hrows,
      (entriesBelow_iff ..).mpr hcols, Bool.and_self, require_true, require_pos ⟨hlen, hlen'⟩]
    rfl
  · refine completes_matrix rfl ?_ fun _ _ _ _ => rfl
    rw [withM_some hm, withP_some hci, (entriesBelow_iff ..).mpr hcols, require_true, require_pos hlen]
    rfl

/-- Settles O39: the first check that fails gives the cause. -/
theorem matrixStoreFaultsInOrder : Obligations.MatrixStoreFaultsInOrder := by
  unfold Obligations.MatrixStoreFaultsInOrder
  intro s d a k pr pc x r c r1 c1 rep ini
  refine ⟨fun h => faults_of_result rfl (require_neg (by omega) _ _), fun ha => ?_, fun hk => ?_, fun hp => ?_,
    fun m hm => ⟨fun hr => ?_, fun hc => ?_, fun v hv => ⟨fun hne => ?_, fun hne => ?_, fun hlen hr => ?_,
      fun hlen hc => ?_⟩, fun hrect => ⟨?_, ?_⟩, fun hrect => ⟨?_, ?_⟩, fun ri ci hri hci => ⟨fun hbad => ?_,
      fun hbad => ?_, fun hrows hlen => ?_, fun hcols hlen => ?_, fun hrows hcols hlen => ?_⟩⟩⟩
  · have first (f : ByteMatrix → Result) : withM s a f = .error .unallocatedSlot := withM_none ha f
    exact ⟨faults_of_result rfl (first _), faults_of_result rfl (first _), faults_of_result rfl (first _),
      faults_of_result rfl (first _), faults_of_result rfl (first _), faults_of_result rfl (first _),
      faults_of_result rfl (first _), faults_of_result rfl (first _), faults_of_result rfl (first _),
      faults_of_result rfl (first _), faults_of_result rfl (first _), faults_of_result rfl (first _),
      faults_of_result rfl (first _), faults_of_result rfl (first _), faults_of_result rfl (first _),
      faults_of_result rfl (first _), faults_of_result rfl (first _), faults_of_result rfl (first _),
      faults_of_result rfl (first _), faults_of_result rfl (first _), faults_of_result rfl (first _),
      faults_of_result rfl (first _)⟩
  · exact ⟨faults_of_result rfl (withM_unallocated fun _ => withV_none hk _),
      faults_of_result rfl (withM_unallocated fun _ => withV_none hk _)⟩
  · have second (f : ByteMatrix → List Word → Result) :
        (withM s a fun m => withP s pr (f m)) = .error .unallocatedSlot :=
      withM_unallocated fun _ => withP_none hp _
    exact ⟨faults_of_result rfl (second _), faults_of_result rfl (second _), faults_of_result rfl (second _),
      faults_of_result rfl (withM_unallocated fun _ => withP_unallocated fun _ => withP_none hp _)⟩
  · have hr' := Nat.not_lt.mpr hr
    exact ⟨faults_of_result rfl ((withM_some hm _).trans (require_neg (fun h => hr' h.1) _ _)),
      faults_of_result rfl ((withM_some hm _).trans (require_neg (fun h => hr' h.1) _ _)),
      faults_of_result rfl ((withM_some hm _).trans (require_neg hr' _ _)),
      faults_of_result rfl ((withM_some hm _).trans (require_neg (fun h => hr' h.1) _ _)),
      faults_of_result rfl ((withM_some hm _).trans (require_neg (fun h => hr' h.2) _ _))⟩
  · have hc' := Nat.not_lt.mpr hc
    exact ⟨faults_of_result rfl ((withM_some hm _).trans (require_neg (fun h => hc' h.2) _ _)),
      faults_of_result rfl ((withM_some hm _).trans (require_neg (fun h => hc' h.2) _ _)),
      faults_of_result rfl ((withM_some hm _).trans (require_neg hc' _ _)),
      faults_of_result rfl ((withM_some hm _).trans (require_neg (fun h => hc' h.2) _ _)),
      faults_of_result rfl ((withM_some hm _).trans (require_neg (fun h => hc' h.1) _ _))⟩
  · exact faults_of_result rfl (by rw [withM_some hm, withV_some hv, require_neg hne])
  · exact faults_of_result rfl (by rw [withM_some hm, withV_some hv, require_neg hne])
  · exact faults_of_result rfl (by
      rw [withM_some hm, withV_some hv, require_pos hlen, require_neg (Nat.not_lt.mpr hr)])
  · exact faults_of_result rfl (by
      rw [withM_some hm, withV_some hv, require_pos hlen, require_neg (Nat.not_lt.mpr hc)])
  · exact faults_of_result rfl (sliceInto_outOfRange d hm hrect)
  · exact faults_of_result rfl (readRect_outOfRange x _ hm hrect)
  · exact faults_of_result rfl (sliceInto_outOfRange d hm fun h => hrect ⟨h.2.1, h.2.2.2⟩)
  · exact faults_of_result rfl (sliceInto_outOfRange d hm fun h => hrect ⟨h.1, h.2.2.1⟩)
  · constructor
    · exact faults_of_result rfl (by rw [withM_some hm, withP_some hri, entriesBelow_eq_false hbad, require_false])
    · exact faults_of_result rfl (by
        rw [withM_some hm, withP_some hri, withP_some hci, entriesBelow_eq_false hbad, Bool.false_and, require_false])
  · constructor
    · exact faults_of_result rfl (by rw [withM_some hm, withP_some hci, entriesBelow_eq_false hbad, require_false])
    · exact faults_of_result rfl (by
        rw [withM_some hm, withP_some hri, withP_some hci, entriesBelow_eq_false hbad, Bool.and_false, require_false])
  · exact faults_of_result rfl (by
      rw [withM_some hm, withP_some hri, (entriesBelow_iff ..).mpr hrows, require_true,
        require_neg (Nat.not_le.mpr hlen)])
  · exact faults_of_result rfl (by
      rw [withM_some hm, withP_some hci, (entriesBelow_iff ..).mpr hcols, require_true,
        require_neg (Nat.not_le.mpr hlen)])
  · have hnot : ¬ (ri.length ≤ s.params.mMaxDim ∧ ci.length ≤ s.params.mMaxDim) := by omega
    exact faults_of_result rfl (by
      rw [withM_some hm, withP_some hri, withP_some hci, (entriesBelow_iff ..).mpr hrows,
        (entriesBelow_iff ..).mpr hcols, Bool.and_self, require_true, require_neg hnot])

end Sys2Proof.Machine
end

section
/-! PROOFS. Byte-matrix arithmetic (45_matrix_arith.md): element-wise forms, products, powers, rectangle updates and
folds, and their faults. -/

namespace Sys2Proof.Machine

theorem withM_withM_some {s : State} {a b : MSlot} {m n : ByteMatrix} (hm : s.getM a = some m)
    (hn : s.getM b = some n) (f : ByteMatrix → ByteMatrix → Result) :
    (withM s a fun x => withM s b (f x)) = f m n := by
  rw [withM_some hm, withM_some hn]

/-- Settles O40: one table of the results' elements, `gfMul` read as `polyMul`. -/
theorem matrixElementwiseCompletes : Obligations.MatrixElementwiseCompletes := by
  unfold Obligations.MatrixElementwiseCompletes
  intro s d a b c rep m n hm
  refine ⟨fun hn hrows hcols => ⟨?_, ?_⟩, ?_, ?_, fun hc => ?_⟩
  · exact completes_matrix rfl ((withM_withM_some hm hn _).trans (require_pos ⟨hrows, hcols⟩ _ _)) fun _ _ _ _ => rfl
  · exact completes_matrix rfl ((withM_withM_some hm hn _).trans (require_pos ⟨hrows, hcols⟩ _ _))
      fun _ _ _ _ => gfMul_eq_polyMul _ _
  · exact completes_matrix rfl (withM_some hm _) fun _ _ _ _ => rfl
  · exact completes_matrix rfl (withM_some hm _) fun _ _ _ _ => gfMul_eq_polyMul _ _
  · exact completes_setM (congrArg (finish s) ((withM_some hm _).trans (congrArg (require · _ _) (bne_iff_ne.mpr hc))))
      fun t ht => ⟨_, ht ▸ hasElems_newMatrix fun _ _ _ _ => rfl, fun i j _ _ => polyMul_gfDivNz _ hc⟩

/-- Settles O41: the sums the meaning takes are `dot`. -/
theorem matrixProductsComplete : Obligations.MatrixProductsComplete := by
  unfold Obligations.MatrixProductsComplete
  intro s d a b k h rep m hm
  refine ⟨fun n hn hdim => ?_, fun v hv hdim => ?_, fun v hv hdim => ?_⟩
  · exact completes_matrix rfl ((withM_withM_some hm hn _).trans (require_pos hdim _ _))
      fun i j _ _ => (dot_eq_gfSum _ _ _).symm
  · refine completes_bytes rfl ?_ fun i _ => (dot_eq_gfSum _ (m.e i) (vecAt v)).symm
    rw [withM_some hm, withV_some hv, require_pos hdim]
  · refine completes_bytes rfl ?_ fun j _ => (dot_eq_gfSum _ (vecAt v) fun q => m.e q j).symm
    rw [withV_some hv, withM_some hm, require_pos hdim]

/-! Powers (R269): the product is associative and the identity is neutral, so squaring halves the exponent. -/

theorem mul_e_dot (rep : MRepr) (a b : ByteMatrix) (i j : Nat) (hi : i < a.rows) (hj : j < b.cols) :
    (ByteMatrix.mul rep a b).e i j = dot a.cols (a.e i) fun k => b.e k j := by
  rw [mul_e rep a b i j hi hj, dot_eq_gfSum]

theorem mul_assoc_matrix (rep : MRepr) {a b c : ByteMatrix} (hab : a.cols = b.rows) :
    ByteMatrix.mul rep (ByteMatrix.mul rep a b) c = ByteMatrix.mul rep a (ByteMatrix.mul rep b c) := by
  refine newMatrix_congr fun i j hi hj => ?_
  rw [← dot_eq_gfSum, ← dot_eq_gfSum]
  have hleft : ∀ l, l < b.cols → (ByteMatrix.mul rep a b).e i l = dot a.cols (a.e i) fun k => b.e k l :=
    fun l hl => mul_e_dot rep a b i l hi hl
  have hright : ∀ k, k < a.cols → (ByteMatrix.mul rep b c).e k j = dot b.cols (b.e k) fun l => c.e l j :=
    fun k hk => mul_e_dot rep b c k j (hab ▸ hk) hj
  rw [mul_cols, dot_congr hleft fun _ _ => rfl, dot_congr (fun _ _ => rfl) hright, dot_dot]

/-- a^n for a square a: its shape, and that it is canonical. -/
structure SquareLike (rep : MRepr) (a p : ByteMatrix) : Prop where
  rows : p.rows = a.rows
  cols : p.cols = a.rows
  repr : p.repr = rep
  wf : p.wf = true

theorem squareLike_nthPower (rep : MRepr) {a : ByteMatrix} (h : a.rows = a.cols) (n : Nat) :
    SquareLike rep a (nthPower rep a n) := by
  induction n with
  | zero => exact ⟨rfl, rfl, rfl, newMatrix_wf ..⟩
  | succ n ih =>
    rw [nthPower, Function.iterate_succ_apply']
    exact ⟨ih.rows, h.symm, rfl, mul_wf ..⟩

theorem nthPower_succ (rep : MRepr) (a : ByteMatrix) (n : Nat) :
    nthPower rep a (n + 1) = ByteMatrix.mul rep (nthPower rep a n) a :=
  Function.iterate_succ_apply' ..

theorem mul_identity {rep : MRepr} {a p : ByteMatrix} (hp : SquareLike rep a p) :
    ByteMatrix.mul rep p (newMatrix a.rows a.rows rep identityAt) = p := by
  refine Eq.trans ?_ (newMatrix_self p hp.wf)
  rw [ByteMatrix.mul, newMatrix_cols, hp.rows, hp.cols, hp.repr]
  refine newMatrix_congr fun i j _ hj => ?_
  have hid : ∀ k, k < a.rows → (newMatrix a.rows a.rows rep identityAt).e k j = if k = j then 1 else 0 :=
    fun k hk => newMatrix_e _ _ _ _ _ _ hk hj
  rw [← dot_eq_gfSum, dot_congr (fun _ _ => rfl) hid, dot_comm, dot_single, if_pos hj, one_gfMul]

theorem mul_nthPower (rep : MRepr) {a : ByteMatrix} (h : a.rows = a.cols) (m n : Nat) :
    ByteMatrix.mul rep (nthPower rep a m) (nthPower rep a n) = nthPower rep a (m + n) := by
  have hm := squareLike_nthPower rep h m
  induction n with
  | zero => exact mul_identity hm
  | succ n ih =>
    have hn := squareLike_nthPower rep h n
    rw [nthPower_succ, ← mul_assoc_matrix rep (hm.cols.trans hn.rows.symm), ih]
    exact (nthPower_succ rep a (m + n)).symm

/-- Repeated squaring computes the n-fold product, if the bits suffice. -/
theorem powBits_eq_nthPower (rep : MRepr) {a : ByteMatrix} (h : a.rows = a.cols) {bits n : Nat} (hn : n < 2 ^ bits) :
    ByteMatrix.powBits rep a bits n = nthPower rep a n := by
  induction bits generalizing n with
  | zero =>
    obtain rfl : n = 0 := by omega
    rfl
  | succ bits ih =>
    rw [ByteMatrix.powBits]
    split
    next hzero => subst hzero; rfl
    next =>
      have hhalf := ih (n := n / 2) (by omega)
      dsimp only
      rw [hhalf, mul_nthPower rep h]
      split
      · rw [← nthPower_succ]
        congr 1
        omega
      · congr 1
        omega

/-- Settles O42: 32 bits of repeated squaring are enough for a register. -/
theorem matrixPowerIsRepeatedProduct : Obligations.MatrixPowerIsRepeatedProduct := by
  unfold Obligations.MatrixPowerIsRepeatedProduct
  intro s d a x rep m hm hsquare
  refine completes_setM (congrArg (finish s) ((withM_some hm _).trans (require_pos hsquare _ _)))
    fun t ht => ht.trans ?_
  exact congrArg some (powBits_eq_nthPower _ hsquare (s.getX x).isLt)

/-! Rectangle updates (R272 to R277). -/

theorem updateRect_ok {s : State} {a : MSlot} {m : ByteMatrix} {r0 c0 r1 c1 : XReg} (hm : s.getM a = some m)
    (h : s.index r0 ≤ s.index r1 ∧ s.index r1 ≤ m.rows ∧ s.index c0 ≤ s.index c1 ∧ s.index c1 ≤ m.cols)
    (op : Byte → Byte → Byte) (nz : Bool) (b : XReg) :
    updateRect op nz a b r0 c0 r1 c1 s = .ok (s.setM a (some (m.withElems fun i j =>
      if inRect (s.index r0) (s.index c0) (s.index r1) (s.index c1) i j && (!nz || m.e i j != 0)
      then op (m.e i j) (s.element b) else m.e i j))) := by
  rw [updateRect, withM_some hm, (rectOk_iff ..).mpr h, require_true]

/-- One update: op on the named elements. -/
theorem updateRect_completes {i : Instr} {s : State} {a : MSlot} {b r0 c0 r1 c1 : XReg} {m : ByteMatrix}
    {op : Byte → Byte → Byte} {op' : Byte → Byte} {nz : Bool}
    (h : exec i s = finish s (updateRect op nz a b r0 c0 r1 c1 s)) (hm : s.getM a = some m)
    (hrect : s.index r0 ≤ s.index r1 ∧ s.index r1 ≤ m.rows ∧ s.index c0 ≤ s.index c1 ∧ s.index c1 ≤ m.cols)
    (hop : ∀ e, op e (s.element b) = op' e) :
    Completes i [.m a] (fun t => HasElems (t.getM a) m.rows m.cols m.repr
      (updated m (s.index r0) (s.index c0) (s.index r1) (s.index c1) op' nz)) s := by
  refine completes_matrix h (updateRect_ok hm hrect op nz b) fun i j _ _ => ?_
  rw [updated, hop]
  refine if_congr ?_ rfl rfl
  simp only [inRect, Bool.and_eq_true, decide_eq_true_eq, Bool.or_eq_true, Bool.not_eq_true', bne_iff_ne]
  cases nz <;> simp

/-- Settles O43: six updates, each with its operation. -/
theorem rectangleUpdatesComplete : Obligations.RectangleUpdatesComplete := by
  unfold Obligations.RectangleUpdatesComplete
  intro s a b r0 c0 r1 c1 m hm hr hr1 hc hc1 f hf
  subst hf
  have hrect := And.intro hr (And.intro hr1 (And.intro hc hc1))
  exact ⟨updateRect_completes rfl hm hrect fun _ => rfl, updateRect_completes rfl hm hrect fun _ => rfl,
    updateRect_completes rfl hm hrect fun e => gfMul_eq_polyMul e _, updateRect_completes rfl hm hrect fun _ => rfl,
    updateRect_completes rfl hm hrect fun _ => rfl, updateRect_completes rfl hm hrect fun e => gfMul_eq_polyMul e _⟩

/-! Rectangle folds (R278, R279). -/

/-- The nested fold of the rule runs over the elements row by row. -/
theorem foldRect_eq_foldl (op : Byte → Byte → Byte) (start : Byte) (m : ByteMatrix) (r0 c0 r1 c1 : Nat) :
    foldRect op start m r0 c0 r1 c1 = (m.rectElems r0 c0 r1 c1).foldl op start := by
  simp only [foldRect, ByteMatrix.rectElems, List.range'_eq_map_range, List.foldl_map, List.foldl_flatMap]

theorem foldl_gfMul (ts : List Byte) (z : Byte) : ts.foldl gfMul z = gfMul z (gfProd ts) := by
  induction ts generalizing z with
  | nil => exact (gfMul_one z).symm
  | cons t ts ih => rw [List.foldl_cons, ih, gfMul_assoc]; rfl

/-- Settles O44: both folds, from the left, are the sum and the product of R148. -/
theorem rectangleFoldsComplete : Obligations.RectangleFoldsComplete := by
  unfold Obligations.RectangleFoldsComplete
  intro s x a r0 c0 r1 c1 m hm hr hr1 hc hc1
  constructor
  · refine completes_word rfl (readRect_ok x _ hm ⟨hr, hr1, hc, hc1⟩) ?_
    rw [zextByte_eq, foldRect_eq_foldl, gfSum_eq_foldl]
    exact congrArg (BitVec.setWidth 32) BitVec.zero_xor.symm
  · refine completes_word rfl (readRect_ok x _ hm ⟨hr, hr1, hc, hc1⟩) ?_
    rw [zextByte_eq, foldRect_eq_foldl, ← gfMul_funext, foldl_gfMul, one_gfMul]

/-! Faults. -/

theorem updateRect_outOfRange {s : State} {a : MSlot} {m : ByteMatrix} {r0 c0 r1 c1 : XReg} (hm : s.getM a = some m)
    (h : ¬ (s.index r0 ≤ s.index r1 ∧ s.index r1 ≤ m.rows ∧ s.index c0 ≤ s.index c1 ∧ s.index c1 ≤ m.cols))
    (op : Byte → Byte → Byte) (nz : Bool) (b : XReg) :
    updateRect op nz a b r0 c0 r1 c1 s = .error .indexOutOfRange := by
  rw [updateRect, withM_some hm, rectOk_eq_false h, require_false]

/-- Settles O46: the first check that fails gives the cause. -/
theorem matrixArithmeticFaultsInOrder : Obligations.MatrixArithmeticFaultsInOrder := by
  unfold Obligations.MatrixArithmeticFaultsInOrder
  intro s d a b k h x c r0 c0 r1 c1 rep prd
  refine ⟨fun ha => ?_, fun hk => ?_, fun m hm => ⟨fun n hn => ⟨fun hne => ?_, fun hne => ?_⟩, fun hne => ?_,
    fun v hv => ⟨fun hne => ?_, fun hne => ?_⟩, fun hc => ?_, fun hrect => ?_⟩⟩
  · have first (f : ByteMatrix → Result) : withM s a f = .error .unallocatedSlot := withM_none ha f
    have second (f : ByteMatrix → ByteMatrix → Result) :
        (withM s b fun m => withM s a (f m)) = .error .unallocatedSlot := withM_unallocated fun _ => first _
    exact ⟨faults_of_result rfl (first _), faults_of_result rfl (second _), faults_of_result rfl (first _),
      faults_of_result rfl (first _), faults_of_result rfl (first _), faults_of_result rfl (first _),
      faults_of_result rfl (second _), faults_of_result rfl (first _), faults_of_result rfl (second _),
      faults_of_result rfl (first _), faults_of_result rfl (first _),
      faults_of_result rfl (withV_unallocated fun _ => first _), faults_of_result rfl (first _),
      faults_of_result rfl (first _), faults_of_result rfl (first _), faults_of_result rfl (first _),
      faults_of_result rfl (first _), faults_of_result rfl (first _), faults_of_result rfl (first _),
      faults_of_result rfl (first _), faults_of_result rfl (first _), faults_of_result rfl (first _)⟩
  · exact ⟨faults_of_result rfl (withM_unallocated fun _ => withV_none hk _), faults_of_result rfl (withV_none hk _)⟩
  · exact ⟨faults_of_result rfl ((withM_withM_some hm hn _).trans (require_neg hne _ _)),
      faults_of_result rfl ((withM_withM_some hm hn _).trans (require_neg hne _ _))⟩
  · exact faults_of_result rfl ((withM_withM_some hm hn _).trans (require_neg hne _ _))
  · exact faults_of_result rfl ((withM_some hm _).trans (require_neg hne _ _))
  · exact faults_of_result rfl (by rw [withM_some hm, withV_some hv, require_neg hne])
  · exact faults_of_result rfl (by rw [withV_some hv, withM_some hm, require_neg hne])
  · refine faults_of_result rfl ((withM_some hm _).trans ?_)
    rw [hc]
    rfl
  · have outside := updateRect_outOfRange hm hrect
    exact ⟨faults_of_result rfl (outside _ _ _), faults_of_result rfl (outside _ _ _),
      faults_of_result rfl (outside _ _ _), faults_of_result rfl (outside _ _ _),
      faults_of_result rfl (outside _ _ _), faults_of_result rfl (outside _ _ _),
      faults_of_result rfl (readRect_outOfRange x _ hm hrect), faults_of_result rfl (readRect_outOfRange x _ hm hrect)⟩

end Sys2Proof.Machine
end

section
/-! PROOFS. Steps as the agenda has them (20_memory.md R77), the two resets (70_reset_and_hazards.md R400 to R402),
`STATUS` (10_state.md R42), the solver's registers (R47) and the data window (20_memory.md R74, R75). -/

namespace Sys2Proof.Machine

/-! The step, by the event at the head of the agenda. -/

theorem step_core {s : State} {ev : List HostEvent} (h : s.agenda = .core :: ev) :
    step s = coreStep { s with agenda := ev } := by
  rw [step, h]

theorem step_access {s : State} {op : HostOp} {during : Bool} {ev : List HostEvent}
    (h : s.agenda = .access op during :: ev) : step s = .next (hostAccess op during { s with agenda := ev }) := by
  rw [step, h]

theorem step_together {s : State} {op : HostOp} {ev : List HostEvent} (h : s.agenda = .together op :: ev) :
    step s = coreStep (hostAccess op true { s with agenda := ev }) := by
  rw [step, h]

theorem step_hardReset {s : State} {ev : List HostEvent} (h : s.agenda = .hardReset :: ev) :
    step s = .next (resetBlock { s with agenda := ev }) := by
  rw [step, h]

/-- Settles O3: the cases of `step`, then those of `coreStep`. -/
theorem stepRunsTheDecodedCommand : Obligations.StepRunsTheDecodedCommand := by
  unfold Obligations.StepRunsTheDecodedCommand
  refine ⟨fun s w rest i hq hd => ⟨fun ha => ?_, fun ev ha => ?_⟩, fun s op ev w rest i ha hq hd => ?_,
    fun s op during ev ha => step_access ha, fun s w rest e hq ha hd => ?_, fun s ha hq => ?_⟩
  · exact (step_empty_agenda ha).trans (coreStep_command hq hd)
  · have hq' : { s with agenda := ev }.queue = w :: rest := hq
    exact (step_core ha).trans (coreStep_command hq' hd)
  · exact (step_together ha).trans (coreStep_command hq hd)
  · exact (step_empty_agenda ha).trans (coreStep_illegal hq hd)
  · exact (step_empty_agenda ha).trans (coreStep_idle hq)

/-- Settles O5: each word is decoded. -/
theorem exampleWordsDecode : Obligations.ExampleWordsDecode := by
  unfold Obligations.ExampleWordsDecode
  exact ⟨rfl, rfl, rfl, rfl, rfl, rfl, rfl, rfl, rfl, rfl, rfl, rfl⟩

/-! Reset. -/

/-- The answer to a host access is no item of R401. -/
theorem IsReset.withResponse {s : State} (h : IsReset s) (r : Option BusResponse) :
    IsReset { s with response := r } := { h with }

/-- R41: the soft reset, as the host asks for it. -/
theorem hostAccess_softReset {w : Word} (hw : w.getLsbD 31 = true) (during : Bool) (s : State) :
    hostAccess (.write 0x008 4 w) during s = { resetBlock s with response := some .written } := by
  have hreset : writeWindow (0x008 : BitVec 12).toNat w s = resetBlock s := writeCtrl_reset hw s
  rw [hostAccess_write_ok (accessOk_word rfl), hreset]

/-- Settles O1: `resetBlock` is R401's table, whichever event asks for it, and a reset queue takes a push. -/
theorem resetReachesResetValues : Obligations.ResetReachesResetValues := by
  unfold Obligations.ResetReachesResetValues
  refine ⟨isReset_resetBlock State.reset, fun s rest ha => ?_, fun s w during rest hw ha => ?_⟩
  · exact ⟨_, step_hardReset ha, isReset_resetBlock _, rfl⟩
  · refine ⟨_, (step_access ha).trans (congrArg _ (hostAccess_softReset hw during _)),
      (isReset_resetBlock _).withResponse _, rfl, fun v hdepth => ?_⟩
    have hroom : (resetBlock s).queue.length < (resetBlock s).params.qDepth := hdepth
    exact congrArg State.queue (push_appended (s := { resetBlock { s with agenda := rest } with
      response := some .written }) rfl hroom v)

/-! `STATUS` (R42). -/

theorem State.statusWord_lt (s : State) : s.statusWord.toNat < 2 ^ 6 := by
  have hbit : ∀ b : Bool, b.toNat ≤ 1 := Bool.toNat_le
  have := hbit s.busy
  have := hbit s.status.fault
  have := hbit s.status.done
  have := hbit s.status.signal
  have := hbit s.status.overrun
  have := hbit s.status.accerr
  rw [State.statusWord, BitVec.toNat_ofNat]
  omega

/-- The reserved bits of `STATUS` read 0. -/
theorem State.statusWord_reserved (s : State) {k : Nat} (hk : 6 ≤ k) : s.statusWord.getLsbD k = false :=
  Nat.testBit_lt_two_pow (s.statusWord_lt.trans_le (Nat.pow_le_pow_right (by decide) hk))

/-- A write of 1 clears each of the bits 1 to 5, and a write of 0 keeps it. -/
theorem statusWord_acknowledge (s : State) (w : Word) {k : Nat} (h1 : 1 ≤ k) (h5 : k ≤ 5) :
    (acknowledge w s).statusWord.getLsbD k = (s.statusWord.getLsbD k && !w.getLsbD k) := by
  have hnew := (acknowledge w s).statusWord_getLsbD ⟨k, by omega⟩
  have hold := s.statusWord_getLsbD ⟨k, by omega⟩
  simp only at hnew hold
  rw [hnew, hold]
  interval_cases k <;> rfl

/-- Handled with the end of a command, a `STATUS` write leaves the queue to the core. -/
theorem hostAccess_status_queue (w : Word) (s : State) :
    (hostAccess (.write 0x00C 4 w) true s).queue = s.queue := by
  rw [hostAccess_write_ok (accessOk_word rfl)]
  rfl

/-- R42: the bit a command's end sets, set at once with a write, ends set. -/
theorem coreStep_status {u : State} {c : Word} {rest : List Word} (hq : u.queue = c :: rest) :
    (∀ e, decode c = .error e → ∃ t, coreStep u = .next t ∧ FaultEntry .illegalCommand u t ∧
      t.status.fault = true) ∧
    ∀ i, decode c = .ok i →
      (∀ e, Faults i e u → ∃ t, coreStep u = .next t ∧ FaultEntry e u t ∧ t.status.fault = true) ∧
      (Completes i (writesOf u i) (fun _ => True) u → ∃ t, coreStep u = .next t ∧ Retires u t ∧
        (rest = [] → t.status.done = true) ∧ (i = .signal → t.status.signal = true)) := by
  refine ⟨fun e hd => ?_, fun i hd => ⟨fun e hf => ?_, fun hc => ?_⟩⟩
  · exact ⟨_, coreStep_illegal hq hd, faultEntry_takeFault _ u, rfl⟩
  · obtain ⟨t, ht, hentry⟩ := hf
    exact ⟨t, (coreStep_command hq hd).trans ht, hentry, hentry.fault⟩
  · obtain ⟨t, ht, hretires, -, -⟩ := hc
    refine ⟨t, (coreStep_command hq hd).trans ht, hretires, fun hrest => ?_, fun hsignal => ?_⟩
    · rw [hretires.done, hq, hrest]
      exact Bool.or_true _
    · subst hsignal
      cases ht
      rfl

/-- Settles O15: the bits of the word, the write, and the end of the head command in the same step. -/
theorem statusIsWriteOneToClear : Obligations.StatusIsWriteOneToClear := by
  unfold Obligations.StatusIsWriteOneToClear
  have atOnce {s : State} {w c : Word} {rest : List Word} {ev : List HostEvent} (hq : s.queue = c :: rest) :
      (hostAccess (.write 0x00C 4 w) true { s with agenda := ev }).queue = c :: rest :=
    (hostAccess_status_queue w _).trans hq
  refine ⟨fun s w during => ?_, fun s w c ev hq ha => ?_, fun s u w c rest ev hq ha hu => ?_⟩
  · have hread (t : State) : (readWindow 0x00C during t).1 = t.statusWord := rfl
    have hwrite : writeWindow 0x00C w s = acknowledge w s := rfl
    rw [hread, hread, hwrite]
    refine ⟨fun k h1 h5 => statusWord_acknowledge s w h1 h5, rfl, ?_, s.statusWord_getLsbD 1, s.statusWord_getLsbD 2,
      s.statusWord_getLsbD 3, s.statusWord_getLsbD 4, s.statusWord_getLsbD 5, fun k => s.statusWord_reserved⟩
    rw [Bool.eq_iff_iff, decide_eq_true_iff, ← s.busy_iff]
    exact (congrArg (· = true) (s.statusWord_getLsbD 0)).to_iff
  · rw [step_together ha]
    obtain ⟨-, hcommand⟩ := coreStep_status (atOnce (w := w) (ev := ev) hq)
    refine ⟨fun hc => ?_, fun hc => ?_, fun hc => ?_⟩ <;> subst hc
    · obtain ⟨t, ht, -, hdone, -⟩ := (hcommand .nop rfl).2 (nop_completes _)
      exact ⟨t, ht, hdone rfl⟩
    · obtain ⟨t, ht, hret, hframe, -⟩ := signal_completes (hostAccess (.write 0x00C 4 w) true { s with agenda := ev })
      obtain ⟨t, ht, -, hdone, hsignal⟩ := (hcommand .signal rfl).2 ⟨t, ht, hret, hframe, trivial⟩
      exact ⟨t, ht, hdone rfl, hsignal rfl⟩
    · obtain ⟨t, ht, -, hfault⟩ := (hcommand (.ginv 1 0) rfl).1 _ (ginv_faults 1 rfl)
      exact ⟨t, ht, hfault⟩
  · subst hu
    rw [step_together ha]
    exact coreStep_status (atOnce hq)

end Sys2Proof.Machine
end

section
/-! PROOFS. The data window of an idle core (20_memory.md R75), its lock while busy (R74), and the solver's registers
(10_state.md R47). -/

namespace Sys2Proof.Machine

/-! Bytes of a word. -/

/-- Byte k of a packed word is the k-th byte packed. -/
theorem packBytes_byte (f : Nat → Byte) {k : Nat} (hk : k < 4) : (packBytes f >>> (8 * k)).setWidth 8 = f k := by
  apply BitVec.eq_of_toNat_eq
  have h0 := (f 0).isLt
  have h1 := (f 1).isLt
  have h2 := (f 2).isLt
  have h3 := (f 3).isLt
  rw [BitVec.toNat_setWidth, BitVec.toNat_ushiftRight, Nat.shiftRight_eq_div_pow, packBytes, BitVec.toNat_ofNat]
  interval_cases k <;> omega

theorem wordByte_eq (w : Word) (k : Nat) : wordByte w k = (w >>> (8 * k)).setWidth 8 := by
  apply BitVec.eq_of_toNat_eq
  rw [wordByte, BitVec.toNat_ofNat, BitVec.toNat_setWidth, BitVec.toNat_ushiftRight, Nat.shiftRight_eq_div_pow]

theorem overwrite_eq (a : Nat) (w : Word) (o : Nat) (old : Byte) : overwrite a w o old =
    if a ≤ o ∧ o < a + 4 then (w >>> (8 * (o - a))).setWidth 8 else old := by
  rw [overwrite, wordByte_eq]

/-! An accepted access to each kind of object. -/

theorem lt_countWord {a : Word} {n : Nat} (hn : n < 2 ^ 32) (h : a.toNat < n) : a < countWord n := by
  rw [BitVec.lt_def, countWord, BitVec.toNat_ofNat, Nat.mod_eq_of_lt hn]
  exact h

theorem State.selected_matrix_some {s : State} {m : ByteMatrix} (hk : s.dwsel.kind = 0)
    (hm : s.getM s.dwsel.slot = some m) : s.selected = .matrix m := by
  rw [State.selected_matrix hk, hm]
  rfl

theorem State.selected_vector_some {s : State} {v : List Byte} (hk : s.dwsel.kind = 1)
    (hv : s.getV s.dwsel.slot = some v) : s.selected = .vector v := by
  rw [State.selected_vector hk, hv]
  rfl

theorem State.selected_indexList_some {s : State} {p : List Word} (hk : s.dwsel.kind = 2)
    (hp : s.getP s.dwsel.slot = some p) : s.selected = .indexList p := by
  rw [State.selected_indexList hk, hp]
  rfl

section
variable {s : State} (hq : s.queue = []) (hin : s.dwaddr < s.selectedSize)
include hq hin

theorem readDwData_matrix {m : ByteMatrix} (hsel : s.selected = .matrix m) : readDwData s =
    (packBytes fun k => matrixByte m (s.dwaddr.toNat + k), { s with dwaddr := s.dwaddr + 4 }) := by
  rw [readDwData, State.idle_of_queue hq, if_neg Bool.false_ne_true, if_pos hin, hsel]

theorem readDwData_vector {v : List Byte} (hsel : s.selected = .vector v) : readDwData s =
    (packBytes fun k => vecAt v (s.dwaddr.toNat + k), { s with dwaddr := s.dwaddr + 4 }) := by
  rw [readDwData, State.idle_of_queue hq, if_neg Bool.false_ne_true, if_pos hin, hsel]

theorem readDwData_indexList {p : List Word} (hsel : s.selected = .indexList p) : readDwData s =
    (indexAt p s.dwaddr.toNat, { s with dwaddr := s.dwaddr + 1 }) := by
  rw [readDwData, State.idle_of_queue hq, if_neg Bool.false_ne_true, if_pos hin, hsel]

theorem writeDwData_matrix {m : ByteMatrix} (hsel : s.selected = .matrix m) (w : Word) : writeDwData w s =
    { s.setM s.dwsel.slot (some (m.withElems fun i j => overwrite s.dwaddr.toNat w (i * m.cols + j) (m.e i j))) with
      dwaddr := s.dwaddr + 4 } := by
  rw [writeDwData, State.idle_of_queue hq, if_neg Bool.false_ne_true, if_pos hin, hsel]

theorem writeDwData_vector {v : List Byte} (hsel : s.selected = .vector v) (w : Word) : writeDwData w s =
    { s.setV s.dwsel.slot (some (newVector v.length fun k => overwrite s.dwaddr.toNat w k (vecAt v k))) with
      dwaddr := s.dwaddr + 4 } := by
  rw [writeDwData, State.idle_of_queue hq, if_neg Bool.false_ne_true, if_pos hin, hsel]

theorem writeDwData_indexList {p : List Word} (hsel : s.selected = .indexList p) (w : Word) : writeDwData w s =
    { s.setP s.dwsel.slot (some (newIndex p.length fun k => if k = s.dwaddr.toNat then w else indexAt p k)) with
      dwaddr := s.dwaddr + 1 } := by
  rw [writeDwData, State.idle_of_queue hq, if_neg Bool.false_ne_true, if_pos hin, hsel]

end

/-- The object reached gives the size that `DWADDR` is checked against. -/
theorem State.dwaddr_lt_size {s : State} {n : Nat} (hsize : s.selectedSize = countWord n) (hn : n < 2 ^ 32)
    (h : s.dwaddr.toNat < n) : s.dwaddr < s.selectedSize :=
  hsize ▸ lt_countWord hn h

/-- Settles O19: the word read is packed from the object's bytes, or is a list's entry. -/
theorem dataWindowReads : Obligations.DataWindowReads := by
  unfold Obligations.DataWindowReads
  intro s during hq
  have hread : readWindow 0x088 during s = readDwData s := rfl
  rw [hread]
  refine ⟨fun m hk hm hsize hin => ?_, fun v hk hv hsize hin => ?_, fun p hk hp hsize hin => ?_⟩
  · have hsel := State.selected_matrix_some hk hm
    rw [readDwData_matrix hq (State.dwaddr_lt_size (by rw [State.selectedSize, hsel]) hsize hin) hsel]
    exact ⟨rfl, fun k hk => by rw [packBytes_byte _ hk]; rfl⟩
  · have hsel := State.selected_vector_some hk hv
    rw [readDwData_vector hq (State.dwaddr_lt_size (by rw [State.selectedSize, hsel]) hsize hin) hsel]
    exact ⟨rfl, fun k hk => by rw [packBytes_byte _ hk]; rfl⟩
  · have hsel := State.selected_indexList_some hk hp
    rw [readDwData_indexList hq (State.dwaddr_lt_size (by rw [State.selectedSize, hsel]) hsize hin) hsel]
    refine ⟨rfl, ?_⟩
    rw [List.getElem?_eq_getElem hin, indexAt, List.getD_eq_getElem _ _ hin]

/-- Settles O20: the object is rebuilt with the word's bytes at their offsets. -/
theorem dataWindowWrites : Obligations.DataWindowWrites := by
  unfold Obligations.DataWindowWrites
  intro s w hq
  have hwrite : writeWindow 0x088 w s = writeDwData w s := rfl
  rw [hwrite]
  refine ⟨fun m hk hm hsize hin => ?_, fun v hk hv hsize hin => ?_, fun p hk hp hsize hin => ?_⟩
  · have hsel := State.selected_matrix_some hk hm
    rw [writeDwData_matrix hq (State.dwaddr_lt_size (by rw [State.selectedSize, hsel]) hsize hin) hsel]
    refine ⟨?_, fun k hk => State.getM_setM_ne s hk _, rfl⟩
    exact (State.getM_setM_self s _ _).symm ▸ hasElems_newMatrix fun i j _ _ => overwrite_eq _ _ _ _
  · have hsel := State.selected_vector_some hk hv
    rw [writeDwData_vector hq (State.dwaddr_lt_size (by rw [State.selectedSize, hsel]) hsize hin) hsel]
    refine ⟨?_, fun k hk => State.getV_setV_ne s hk _, rfl⟩
    exact (State.getV_setV_self s _ _).symm ▸ hasBytes_newVector fun k _ => overwrite_eq _ _ _ _
  · have hsel := State.selected_indexList_some hk hp
    rw [writeDwData_indexList hq (State.dwaddr_lt_size (by rw [State.selectedSize, hsel]) hsize hin) hsel]
    refine ⟨?_, fun k hk => State.getP_setP_ne s hk _, rfl⟩
    exact (State.getP_setP_self s _ _).trans (congrArg some (newIndex_set p _ w))

/-! The lock while busy (R74), and `DWSEL` (R50). -/

/-- `DWSEL` keeps the six bits of its two fields. -/
theorem DwSel.word_ofWord (w : Word) : (DwSel.ofWord w).word = w &&& 0xF3 := by
  have hmask : w &&& 0xF3 = (w &&& 0xFF) &&& 0xF3 := by rw [BitVec.and_assoc]; rfl
  have hlow : (w &&& 0xFF).toNat = w.toNat % 256 := Nat.and_two_pow_sub_one_eq_mod w.toNat 8
  have hfields : ∀ n < 256, n &&& 0xF3 = n % 4 + 16 * (n / 16 % 16) := by decide +kernel
  apply BitVec.eq_of_toNat_eq
  have hand : ((w &&& 0xFF) &&& 0xF3).toNat = (w &&& 0xFF).toNat &&& 0xF3 := BitVec.toNat_and ..
  rw [hmask, hand, hlow, hfields _ (Nat.mod_lt _ (by decide))]
  simp only [DwSel.word, DwSel.ofWord, countWord, Fin.ofNat, BitVec.toNat_ofNat]
  omega

/-- Settles O18: the four accesses that `BUSY` refuses, and the two registers it leaves open. -/
theorem dataWindowLockedWhileBusy : Obligations.DataWindowLockedWhileBusy := by
  unfold Obligations.DataWindowLockedWhileBusy
  intro s w during hq
  have hbusy : s.busy = true := State.busy_of_queue hq
  exact ⟨if_pos hbusy, if_pos hbusy, if_pos hbusy, if_pos hbusy, rfl, rfl,
    Prod.ext (DwSel.word_ofWord w) rfl, rfl⟩

/-! The solver's registers (R47). -/

/-- The only word of `SVRUN` (R343). -/
theorem encode_svrun : encode .svrun = 0x93000000 := rfl

theorem State.headIsSvrun_iff (s : State) : s.headIsSvrun = true ↔ s.queue.head? = some (encode .svrun) := by
  rw [encode_svrun]
  exact beq_iff_eq

/-- Settles O22: the free value is below 3, and every other read is the stored code. -/
theorem solverRegistersRead : Obligations.SolverRegistersRead := by
  unfold Obligations.SolverRegistersRead
  intro s during
  have hread : readWindow 0x024 during s = readSvState during s := rfl
  rw [hread]
  refine ⟨fun hduring hhead => ?_, fun hother => ?_, rfl, rfl, rfl⟩
  · have hrun : (during && s.headIsSvrun) = true := by
      rw [hduring, Bool.true_and]
      exact s.headIsSvrun_iff.mpr hhead
    rw [readSvState, if_pos hrun]
    refine ⟨?_, rfl⟩
    have hphase (k : Fin 3) : countWord (2 + k.val) = 2 ∨ countWord (2 + k.val) = 3 ∨ countWord (2 + k.val) = 4 := by
      revert k
      decide
    exact hphase _
  · have hrun : ¬ (during && s.headIsSvrun) = true := by
      rw [Bool.and_eq_true, s.headIsSvrun_iff]
      exact fun ⟨hduring, hhead⟩ => hother.elim (fun h => Bool.false_ne_true (h.symm.trans hduring)) (· hhead)
    rw [readSvState, if_neg hrun]
    refine ⟨rfl, ?_⟩
    cases s.sv.state <;> rfl

end Sys2Proof.Machine
end

section
/-! PROOFS. The Gaussian-elimination commands (46_gauss.md): configuration (R304), row and column operations (R305 to
R310), pivot searches (R311, R312), and the order of their checks (R301). -/

namespace Sys2Proof.Machine

/-! A context given by its parts. -/

theorem presentPart_isSome {α : Type} (has : Bool) (a : α) : (presentPart has (some a)).isSome = has := by
  cases has <;> rfl

theorem presentPart_congr {α : Type} {has : Bool} {o : Option α} {a : α} (h : has = true → o = some a) :
    presentPart has (some a) = presentPart has o := by
  cases has with
  | false => rfl
  | true => rw [h rfl]

theorem partsAllocated_mk {s : State} {g : GeContext} {a dm : ByteMatrix} {rl cl : List Word}
    (ha : s.getM g.a = some a) (hd : g.hasD = true → s.getM g.d = some dm)
    (hpr : g.hasPR = true → s.getP g.pr = some rl) (hpc : g.hasPC = true → s.getP g.pc = some cl) :
    PartsAllocated s g ⟨a, presentPart g.hasD (some dm), presentPart g.hasPR (some rl),
      presentPart g.hasPC (some cl)⟩ :=
  ⟨ha, presentPart_congr hd, presentPart_congr hpr, presentPart_congr hpc, presentPart_isSome _ _,
    presentPart_isSome _ _, presentPart_isSome _ _⟩

theorem forall_presentPart {α : Type} {has : Bool} {a : α} {p : α → Prop} :
    (∀ o, presentPart has (some a) = some o → p o) ↔ (has = true → p a) := by
  cases has with
  | false => exact ⟨fun _ => nofun, fun _ _ => nofun⟩
  | true => exact ⟨fun h _ => h a rfl, fun h o ho => Option.some.inj ho ▸ h rfl⟩

theorem fits_mk_iff {a dm : ByteMatrix} {rl cl : List Word} {hasD hasPR hasPC : Bool} :
    Augmented.Fits ⟨a, presentPart hasD (some dm), presentPart hasPR (some rl), presentPart hasPC (some cl)⟩ ↔
      (hasD = true → dm.rows = a.rows) ∧ (hasPR = true → rl.length = a.rows) ∧
        (hasPC = true → cl.length = a.cols) := by
  have hd := forall_presentPart (has := hasD) (a := dm) (p := fun o => o.rows = a.rows)
  have hpr := forall_presentPart (has := hasPR) (a := rl) (p := fun o => o.length = a.rows)
  have hpc := forall_presentPart (has := hasPC) (a := cl) (p := fun o => o.length = a.cols)
  exact ⟨fun h => ⟨hd.mp h.dRows, hpr.mp h.prLength, hpc.mp h.pcLength⟩,
    fun ⟨h, h', h''⟩ => ⟨hd.mpr h, hpr.mpr h', hpc.mpr h''⟩⟩

/-- R301 (3), R304: a present part of another shape. -/
theorem withParts_misfit {s : State} {g : GeContext} {a dm : ByteMatrix} {rl cl : List Word}
    (ha : s.getM g.a = some a) (hd : g.hasD = true → s.getM g.d = some dm)
    (hpr : g.hasPR = true → s.getP g.pr = some rl) (hpc : g.hasPC = true → s.getP g.pc = some cl)
    (hbad : (g.hasD = true ∧ dm.rows ≠ a.rows) ∨ (g.hasPR = true ∧ rl.length ≠ a.rows) ∨
      (g.hasPC = true ∧ cl.length ≠ a.cols)) (f : Augmented → Result) :
    withParts s g f = .error .dimensionMismatch := by
  rw [withParts_allocated (partsAllocated_mk ha hd hpr hpc)]
  refine fitsOr_misfit (fun hfits => ?_) _
  obtain ⟨hfd, hfpr, hfpc⟩ := fits_mk_iff.mp hfits
  obtain ⟨h, hne⟩ | ⟨h, hne⟩ | ⟨h, hne⟩ := hbad
  · exact hne (hfd h)
  · exact hne (hfpr h)
  · exact hne (hfpc h)

/-! Configuration (R304). -/

/-- Settles O47: R301's checks on the parts, then the two of R304 on the slots. -/
theorem gecfgSetsOrFaults : Obligations.GecfgSetsOrFaults := by
  unfold Obligations.GecfgSetsOrFaults
  intro s a d pr pc fl hfields
  let g : GeContext := ⟨true, a, fl.hasD, d, fl.hasPR, pr, fl.hasPC, pc⟩
  have hexec : exec (.gecfg a d pr pc fl) s = finish s (withParts s g fun _ =>
      require (!(fl.hasD && d == a)) .illegalArgument <|
      require (!(fl.hasPR && fl.hasPC && pr == pc)) .illegalArgument <| .ok { s with ge := g }) := by
    rw [exec, execGecfg, hfields]
    rfl
  refine ⟨fun ha => faults_of_result hexec (withParts_unallocated (.inl ha) _),
    fun m ha => ⟨fun hnone => faults_of_result hexec (withParts_unallocated (.inr hnone) _),
      fun dm rl cl hd hpr hpc => ⟨fun hbad => faults_of_result hexec (withParts_misfit ha hd hpr hpc hbad _),
        fun hdm hrl hcl => ⟨fun halias => ?_, fun hda hlists => ?_⟩⟩⟩⟩
  all_goals
    have hfits := withParts_fits (partsAllocated_mk (g := g) ha hd hpr hpc) (fits_mk_iff.mpr ⟨hdm, hrl, hcl⟩)
  · refine faults_of_result hexec ((hfits _).trans ?_)
    obtain ⟨hD, rfl⟩ | ⟨hPR, hPC, rfl⟩ := halias
    · rw [hD, beq_self_eq_true]
      rfl
    · rw [hPR, hPC, beq_self_eq_true]
      cases !(fl.hasD && d == a) <;> rfl
  · have hda' : (!(fl.hasD && d == a)) = true := by
      simpa [imp_iff_not_or] using hda
    have hlists' : (!(fl.hasPR && fl.hasPC && pr == pc)) = true := by
      simpa [imp_iff_not_or, or_assoc] using hlists
    refine completes_of_commits (hexec.trans (congrArg (finish s) ((hfits _).trans ?_)))
      (commits_ge (geContext_wf hfields hda' hlists')) ⟨rfl, rfl, rfl, rfl, rfl, rfl, rfl, rfl⟩
    rw [hda', hlists', require_true, require_true]

/-! A valid context of fitting parts (R301). -/

section
variable {s : State} {a : ByteMatrix} {d : Option ByteMatrix} {pr pc : Option (List Word)} (h : ContextIs s a d pr pc)
include h

theorem ContextIs.parts : PartsAllocated s s.ge ⟨a, d, pr, pc⟩ :=
  ⟨h.coefficients, h.rightHand, h.rowList, h.colList, h.dPresent, h.prPresent, h.pcPresent⟩

theorem ContextIs.withContext_eq (f : Augmented → Result) : withContext s f = f ⟨a, d, pr, pc⟩ :=
  (withContext_valid h.valid f).trans (withParts_fits h.parts ⟨h.dRows, h.prLength, h.pcLength⟩ f)

/-! What the slots hold after parts are written back: the slots are apart (R304). -/

theorem ContextIs.putContext_a {u : Augmented} (hu : Augmented.InPlace ⟨a, d, pr, pc⟩ u) :
    (s.putContext u).getM s.ge.a = some u.a := by
  rw [putContext_getM, if_neg, if_pos rfl]
  rintro ⟨hsome, halias⟩
  exact h.dApart (h.dPresent.symm.trans ((optionRel_isSome hu.d).symm.trans hsome)) halias.symm

omit h in
theorem putContext_d {u : Augmented} {o : ByteMatrix} (ho : u.d = some o) :
    (s.putContext u).getM s.ge.d = some o := by
  rw [putContext_getM, ho, if_pos ⟨rfl, rfl⟩]

theorem ContextIs.putContext_pr {u : Augmented} (hu : Augmented.InPlace ⟨a, d, pr, pc⟩ u) {p : List Word}
    (hp : u.pr = some p) : (s.putContext u).getP s.ge.pr = some p := by
  rw [putContext_getP, if_neg, hp, if_pos ⟨rfl, rfl⟩]
  rintro ⟨hsome, halias⟩
  have hpr : s.ge.hasPR = true := h.prPresent.symm.trans ((optionRel_isSome hu.pr).symm.trans (by rw [hp]; rfl))
  exact h.listsApart hpr (h.pcPresent.symm.trans ((optionRel_isSome hu.pc).symm.trans hsome)) halias

omit h in
theorem putContext_pc {u : Augmented} {p : List Word} (hp : u.pc = some p) :
    (s.putContext u).getP s.ge.pc = some p := by
  rw [putContext_getP, hp, if_pos ⟨rfl, rfl⟩]

/-- A row operation written back. -/
theorem ContextIs.rowsChanged {u : Augmented} (hu : Augmented.InPlace ⟨a, d, pr, pc⟩ u)
    {f g : ByteMatrix → Nat → Nat → Byte} (ha : u.a = a.withElems (f a))
    (hd : u.d = d.map fun o => o.withElems (f o))
    (hfg : ∀ m i j, i < m.rows → j < m.cols → f m i j = g m i j) : RowsChanged s (s.putContext u) a d g := by
  constructor
  · rw [h.putContext_a hu, ha]
    exact hasElems_newMatrix (hfg a)
  · intro o ho
    rw [putContext_d (hd.trans (congrArg (Option.map _) ho))]
    exact hasElems_newMatrix (hfg o)

end

/-! Element (i, j) of each row operation, as the rules spell it. -/

theorem swapRows_elem (x y : Nat) (m : ByteMatrix) (i j : Nat) : swapFn x y m.e i j = m.e (exchange x y i) j :=
  congrFun (swapFn_eq x y m.e i) j

theorem scaleRow_elem (r : Nat) (β : Byte) (m : ByteMatrix) (i j : Nat) :
    (if i = r then gfMul β (m.e i j) else m.e i j) = if i = r then polyMul β (m.e i j) else m.e i j := by
  rw [gfMul_eq_polyMul]

/-- Rows with the multiple 0 are unchanged. -/
theorem axpyRows_elem {P : Prop} [Decidable P] (β x y : Byte) :
    gfAdd x (gfMul (if P then β else 0) y) = if P then x ^^^ polyMul β y else x := by
  split
  · rw [gfMul_eq_polyMul]; rfl
  · rw [gfMul_zero_left]; exact BitVec.xor_zero

theorem hasEntries_swapEntries (x y : Nat) (p : List Word) :
    HasEntries (some (swapEntries x y p)) p.length fun i => p.getD (exchange x y i) 0 :=
  hasEntries_newIndex fun k _ => swapFn_eq x y (indexAt p) k

/-- Settles O48: each command's operation, written back to slots that are apart. -/
theorem rowOperationsComplete : Obligations.RowOperationsComplete := by
  unfold Obligations.RowOperationsComplete
  intro s a d pr pc x y z h
  refine ⟨fun hx hy => ⟨?_, ?_⟩, fun hx hy => ?_, fun hx => ?_⟩
  · have hu := inPlace_swapRows (s.index x) (s.index y) ⟨a, d, pr, pc⟩
    refine completes_of_commits (congrArg (finish s) ((h.withContext_eq _).trans (require_pos ⟨hx, hy⟩ _ _)))
      (commits_systemAndRowList h.parts hu rfl)
      ⟨h.rowsChanged hu rfl rfl fun m i j _ _ => swapRows_elem _ _ m i j, fun p hp => ?_⟩
    subst hp
    exact (h.putContext_pr hu rfl).symm ▸ hasEntries_swapEntries _ _ p
  · have hu := inPlace_axpyRows (s.index y) (fun k => if k = s.index x then s.element z else 0) ⟨a, d, pr, pc⟩
    exact completes_of_commits (congrArg (finish s) ((h.withContext_eq _).trans (require_pos ⟨hx, hy⟩ _ _)))
      (commits_systemParts h.parts hu rfl rfl) (h.rowsChanged hu rfl rfl fun m i j _ _ => axpyRows_elem _ _ _)
  · have hu := inPlace_swapCols (s.index x) (s.index y) ⟨a, d, pr, pc⟩
    refine completes_of_commits (congrArg (finish s) ((h.withContext_eq _).trans (require_pos ⟨hx, hy⟩ _ _)))
      (commits_columns h.parts hu rfl rfl) ⟨?_, fun p hp => ?_⟩
    · exact (h.putContext_a hu).symm ▸ hasElems_newMatrix fun i j _ _ => swapFn_eq _ _ (a.e i) j
    · subst hp
      have hpc : (s.putContext (Augmented.swapCols (s.index x) (s.index y) ⟨a, d, pr, some p⟩)).getP s.ge.pc =
        some (swapEntries (s.index x) (s.index y) p) := putContext_pc rfl
      exact hpc.symm ▸ hasEntries_swapEntries _ _ p
  · have hu := inPlace_scaleRow (s.index x) (s.element y) ⟨a, d, pr, pc⟩
    exact completes_of_commits (congrArg (finish s) ((h.withContext_eq _).trans (require_pos hx _ _)))
      (commits_systemParts h.parts hu rfl rfl) (h.rowsChanged hu rfl rfl fun m i j _ _ => scaleRow_elem _ _ m i j)

theorem HasElems.elem {o : Option ByteMatrix} {rows cols : Nat} {rep : MRepr} {f : Nat → Nat → Byte} {m : ByteMatrix}
    (h : HasElems o rows cols rep f) (hm : o = some m) {i j : Nat} (hi : i < rows) (hj : j < cols) :
    m.e i j = f i j := by
  obtain ⟨w, hw, -, -, -, -, hf⟩ := h
  obtain rfl : w = m := Option.some.inj (hw.symm.trans hm)
  exact hf i j hi hj

theorem rangeOk_iff {lo hi len : Nat} : rangeOk lo hi len = true ↔ lo ≤ hi ∧ hi ≤ len := decide_eq_true_iff

theorem rangeOk_eq_false {lo hi len : Nat} (h : ¬ (lo ≤ hi ∧ hi ≤ len)) : rangeOk lo hi len = false :=
  decide_eq_false h

/-- Settles O49: the pivot's inverse scales its row, and the quotients by the pivot clear its column. -/
theorem pivotStepsComplete : Obligations.PivotStepsComplete := by
  unfold Obligations.PivotStepsComplete
  intro s a d pr pc r c lo hi h hr hc hpivot
  refine ⟨?_, fun hlo hhi => ?_⟩
  · have hu := inPlace_scaleRow (s.index r) (gfInvNz (a.e (s.index r) (s.index c))) ⟨a, d, pr, pc⟩
    have hrows := h.rowsChanged hu rfl rfl fun m i j _ _ => scaleRow_elem _ _ m i j
    have hinv : polyMul (a.e (s.index r) (s.index c)) (gfInvNz (a.e (s.index r) (s.index c))) = 1 := by
      rw [← gfMul_eq_polyMul, gfMul_gfInvNz hpivot]
    refine completes_of_commits (congrArg (finish s) ((h.withContext_eq _).trans ?_))
      (commits_systemParts h.parts hu rfl rfl) ⟨_, hinv, hrows, fun m hm => ?_⟩
    · rw [require_pos ⟨hr, hc⟩, bne_iff_ne.mpr hpivot, require_true]
    · refine (hrows.1.elem hm hr hc).trans ((if_pos rfl).trans ?_)
      rw [← gfMul_eq_polyMul, gfMul_comm, gfMul_gfInvNz hpivot]
  · have hu := inPlace_axpyRows (s.index r) (fun i => if s.index lo ≤ i ∧ i < s.index hi ∧ i ≠ s.index r
      then gfDivNz (a.e i (s.index c)) (a.e (s.index r) (s.index c)) else 0) ⟨a, d, pr, pc⟩
    have hrows := h.rowsChanged hu rfl rfl fun m i j _ _ => axpyRows_elem _ _ _
    have hquot (i : Nat) : polyMul (gfDivNz (a.e i (s.index c)) (a.e (s.index r) (s.index c)))
        (a.e (s.index r) (s.index c)) = a.e i (s.index c) := by
      rw [← gfMul_eq_polyMul, gfMul_comm, gfMul_eq_polyMul, polyMul_gfDivNz _ hpivot]
    refine completes_of_commits (congrArg (finish s) ((h.withContext_eq _).trans ?_))
      (commits_systemParts h.parts hu rfl rfl) ⟨_, hquot, hrows, fun m hm i hi1 hi2 hne => ?_⟩
    · rw [decide_eq_true ⟨hr, hc⟩, rangeOk_iff.mpr ⟨hlo, hhi⟩, Bool.and_self, require_true, bne_iff_ne.mpr hpivot,
        require_true]
    · refine (hrows.1.elem hm (hi2.trans_le hhi) hc).trans ((if_pos ⟨hi1, hi2, hne⟩).trans ?_)
      rw [hquot]
      exact BitVec.xor_self

/-! Pivot searches (R311, R312). -/

theorem leastIn_eq (lo hi : Nat) (f : Nat → Bool) : leastIn lo hi f = (List.range' lo (hi - lo)).find? f := by
  rw [leastIn, List.range'_eq_map_range]

theorem leastIn_eq_some {lo hi i : Nat} {f : Nat → Bool} (h : leastIn lo hi f = some i) :
    lo ≤ i ∧ i < hi ∧ f i = true ∧ ∀ k, lo ≤ k → k < i → f k = false := by
  rw [leastIn_eq, List.find?_range'_eq_some] at h
  obtain ⟨hf, hmem, hleast⟩ := h
  rw [List.mem_range'_1] at hmem
  exact ⟨hmem.1, by omega, hf, fun k hlo hk => by simpa using hleast k hlo hk⟩

theorem leastIn_eq_none {lo hi : Nat} {f : Nat → Bool} (h : leastIn lo hi f = none) :
    ∀ i, lo ≤ i → i < hi → f i = false := by
  intro i hlo hhi
  rw [leastIn_eq, List.find?_eq_none] at h
  exact Bool.eq_false_iff.mpr (h i (List.mem_range'_1.mpr ⟨hlo, by omega⟩))

/-- What a search writes. -/
theorem pivotWord_leastIn {lo hi : Nat} {f : Nat → Bool} {P : Nat → Prop} (hfP : ∀ i, f i = true ↔ P i) :
    LeastOrNone lo hi P (pivotWord (leastIn lo hi f)) := by
  have hfalse {i : Nat} (h : f i = false) : ¬ P i := fun hp => Bool.false_ne_true (h.symm.trans ((hfP i).mpr hp))
  cases h : leastIn lo hi f with
  | none => exact .inr ⟨fun i hlo hhi => hfalse (leastIn_eq_none h i hlo hhi), rfl⟩
  | some i =>
    obtain ⟨hlo, hhi, hf, hleast⟩ := leastIn_eq_some h
    exact .inl ⟨i, hlo, hhi, (hfP i).mp hf, fun k hk hki => hfalse (hleast k hk hki), rfl⟩

theorem rowDegree_eq (m : ByteMatrix) (c0 c1 i : Nat) : rowDegree m c0 c1 i = degreeOf m c0 c1 i :=
  countNonzero_row m c0 c1 i

/-- R312's condition on the row found. -/
theorem leastDegree_iff (lo hi : Nat) (deg : Nat → Nat) (i : Nat) :
    (decide (1 ≤ deg i) && (List.range (hi - lo)).all fun k =>
      decide (deg (lo + k) = 0) || decide (deg i ≤ deg (lo + k))) = true ↔
    1 ≤ deg i ∧ ∀ k, lo ≤ k → k < hi → 1 ≤ deg k → deg i ≤ deg k := by
  simp only [Bool.and_eq_true, decide_eq_true_eq, List.all_eq_true, List.mem_range, Bool.or_eq_true]
  refine and_congr_right fun _ => ⟨fun h k hlo hhi hdeg => ?_, fun h k hk => ?_⟩
  · obtain h | h := h (k - lo) (by omega) <;> rw [Nat.add_sub_cancel' hlo] at h
    · omega
    · exact h
  · by_cases hzero : deg (lo + k) = 0
    · exact .inl hzero
    · exact .inr (h (lo + k) (by omega) (by omega) (Nat.pos_of_ne_zero hzero))

/-- Settles O50: both searches are `leastIn`, with R311's and R312's conditions. -/
theorem pivotSearchesComplete : Obligations.PivotSearchesComplete := by
  unfold Obligations.PivotSearchesComplete
  intro s a d pr pc x r0 c0 r1 c1 h hr hr1
  refine ⟨fun hc => ?_, fun hc hc1 => ?_⟩
  · refine completes_setX (congrArg (finish s) ((h.withContext_eq _).trans ?_)) fun t ht =>
      ⟨_, ht, pivotWord_leastIn fun _ => bne_iff_ne⟩
    rw [decide_eq_true hc, rangeOk_iff.mpr ⟨hr, hr1⟩, Bool.and_self, require_true]
  · refine completes_setX (congrArg (finish s) ((h.withContext_eq _).trans
      (congrArg (require · _ _) ((rectOk_iff ..).mpr ⟨hr, hr1, hc, hc1⟩)))) fun t ht =>
      ⟨_, ht, pivotWord_leastIn fun i => ?_⟩
    simp only [← rowDegree_eq]
    exact leastDegree_iff _ _ _ i

/-! The order of the checks (R301, R303, R376). -/

/-- Every command of the kernel but `GECFG` checks the context first. -/
theorem exec_withContext {s : State} {x y z w e : XReg} {i : Instr}
    (hi : i ∈ [.geswpr x y, .geswpc x y, .gescl x y, .geaxpy x y z, .genorm x y, .geelim x y z w, .gepivf x y z w,
      .gepivm x y z w e, .gerref x]) : ∃ f, exec i s = finish s (withContext s f) := by
  simp only [List.mem_cons, List.not_mem_nil, or_false] at hi
  obtain rfl | rfl | rfl | rfl | rfl | rfl | rfl | rfl | rfl := hi <;> exact ⟨_, rfl⟩

/-- A command whose own first check fails, the context being fine. -/
theorem ContextIs.faults_outOfRange {s : State} {a : ByteMatrix} {d : Option ByteMatrix} {pr pc : Option (List Word)}
    (h : ContextIs s a d pr pc) {i : Instr} {check : Augmented → Bool} {k : Augmented → Result}
    (hi : exec i s = finish s (withContext s fun t => require (check t) .indexOutOfRange (k t)))
    (hcheck : check ⟨a, d, pr, pc⟩ = false) : Faults i .indexOutOfRange s :=
  faults_of_result hi ((h.withContext_eq _).trans (congrArg (require · _ _) hcheck))

/-- Settles O52: the context's checks by `withParts`, each command's own by what it reads. -/
theorem geFaultsInOrder : Obligations.GeFaultsInOrder := by
  unfold Obligations.GeFaultsInOrder
  intro s x y z w e i hi
  obtain ⟨f, hexec⟩ := exec_withContext (s := s) hi
  refine ⟨fun hv => faults_of_result hexec (withContext_invalid hv f), fun hv => ⟨fun hnone => ?_,
    fun a dm rl cl ha hd hpr hpc hbad => ?_⟩, fun a d pr pc h => ⟨fun hx hmem => ?_, fun hy hmem => ?_,
    fun hx hmem => ?_, fun hy hmem => ?_, fun hrange hmem => ?_, fun hrect hmem => ?_,
    fun hx hy hzero => ⟨fun hmem => ?_, fun hmem hlo hhi => ?_⟩⟩⟩
  · exact faults_of_result hexec ((withContext_valid hv f).trans (withParts_unallocated hnone f))
  · exact faults_of_result hexec ((withContext_valid hv f).trans (withParts_misfit ha hd hpr hpc hbad f))
  · have hx' := Nat.not_lt.mpr hx
    simp only [List.mem_cons, List.not_mem_nil, or_false] at hmem
    obtain rfl | rfl | rfl | rfl | rfl := hmem
    · exact h.faults_outOfRange rfl (decide_eq_false fun hin => hx' hin.1)
    · exact h.faults_outOfRange rfl (decide_eq_false hx')
    · exact h.faults_outOfRange rfl (decide_eq_false fun hin => hx' hin.1)
    · exact h.faults_outOfRange rfl (decide_eq_false fun hin => hx' hin.1)
    · refine h.faults_outOfRange rfl (Bool.and_eq_false_iff.mpr (.inl (decide_eq_false fun hin => hx' hin.1)))
  · have hy' := Nat.not_lt.mpr hy
    simp only [List.mem_cons, List.not_mem_nil, or_false] at hmem
    obtain rfl | rfl := hmem
    · exact h.faults_outOfRange rfl (decide_eq_false fun hin => hy' hin.2)
    · exact h.faults_outOfRange rfl (decide_eq_false fun hin => hy' hin.2)
  · subst hmem
    exact h.faults_outOfRange rfl (decide_eq_false fun hin => Nat.not_lt.mpr hx hin.1)
  · have hy' := Nat.not_lt.mpr hy
    simp only [List.mem_cons, List.not_mem_nil, or_false] at hmem
    obtain rfl | rfl | rfl | rfl := hmem
    · exact h.faults_outOfRange rfl (decide_eq_false fun hin => hy' hin.2)
    · exact h.faults_outOfRange rfl (decide_eq_false fun hin => hy' hin.2)
    · exact h.faults_outOfRange rfl (Bool.and_eq_false_iff.mpr (.inl (decide_eq_false fun hin => hy' hin.2)))
    · exact h.faults_outOfRange rfl (Bool.and_eq_false_iff.mpr (.inl (decide_eq_false hy')))
  · simp only [List.mem_cons, List.not_mem_nil, or_false] at hmem
    obtain rfl | rfl := hmem
    · exact h.faults_outOfRange rfl (Bool.and_eq_false_iff.mpr (.inr (rangeOk_eq_false hrange)))
    · exact h.faults_outOfRange rfl (Bool.and_eq_false_iff.mpr (.inr (rangeOk_eq_false hrange)))
  · subst hmem
    exact h.faults_outOfRange rfl (rectOk_eq_false hrect)
  · subst hmem
    refine faults_of_result rfl ((h.withContext_eq _).trans ?_)
    rw [require_pos ⟨hx, hy⟩, hzero]
    rfl
  · subst hmem
    refine faults_of_result rfl ((h.withContext_eq _).trans ?_)
    rw [decide_eq_true ⟨hx, hy⟩, rangeOk_iff.mpr ⟨hlo, hhi⟩, Bool.and_self, require_true, hzero]
    rfl

end Sys2Proof.Machine
end

section
/-! PROOFS. Gauss-Jordan elimination as `ReducesTo` has it (46_gauss.md R313), apart from the machine: the form it
reaches, the solutions it keeps, the rows it picks, and the null vector it leaves when the rank is short. -/

namespace Sys2Proof.Machine

/-! One pivot step on any rows B. -/

section
variable (a b : Nat → Nat → Byte) (r k c : Nat) (q : Byte)

theorem pivoted_self (j : Nat) : pivoted a r k c q b k j = gfMul q (b r j) := by
  rw [pivoted, if_pos rfl, gfMul_eq_polyMul]

variable {k} in
theorem pivoted_other {i : Nat} (h : i ≠ k) (j : Nat) : pivoted a r k c q b i j =
    b (exchange r k i) j ^^^ gfMul (a (exchange r k i) c) (gfMul q (b r j)) := by
  rw [pivoted, if_neg h, gfMul_eq_polyMul, gfMul_eq_polyMul]

end

theorem exchange_lt {r k i n : Nat} (hr : r < n) (hk : k < n) (hi : i < n) : exchange r k i < n := by
  unfold exchange
  split
  · exact hk
  · split <;> assumption

theorem exchange_of_lt {r k i : Nat} (hi : i < k) (hkr : k ≤ r) : exchange r k i = i := by
  rw [exchange, if_neg (by omega), if_neg (by omega)]

theorem exchange_self_right (r k : Nat) : exchange r k k = r := by
  unfold exchange
  split
  next h => exact h
  next => rw [if_pos rfl]

theorem exchange_involutive (r k : Nat) : Function.Involutive (exchange r k) := by
  intro i
  unfold exchange
  grind

theorem le_exchange {r k i : Nat} (hkr : k ≤ r) (hi : k ≤ i) : k ≤ exchange r k i := by
  unfold exchange
  split
  · exact le_rfl
  · split <;> assumption

/-! The form reached. -/

/-- The columns below c are in reduced row-echelon form with k non-zero rows: `IsReduced`, on the part done. -/
def PartReduced (rows : Nat) (a : Nat → Nat → Byte) (c k : Nat) : Prop :=
  ∃ piv : List Nat, piv.length = k ∧ k ≤ rows ∧ piv.Pairwise (· < ·) ∧
    (∀ k' c', piv[k']? = some c' → c' < c ∧ (∀ i, i < rows → a i c' = if i = k' then 1 else 0) ∧
      ∀ j, j < c' → a k' j = 0) ∧
    ∀ i j, k ≤ i → i < rows → j < c → a i j = 0

theorem isReduced_iff (m : ByteMatrix) (r : Nat) : IsReduced m r ↔ PartReduced m.rows m.e m.cols r := Iff.rfl

theorem PartReduced.congr {rows c k : Nat} {a b : Nat → Nat → Byte} (h : PartReduced rows a c k)
    (hab : ∀ i j, i < rows → j < c → b i j = a i j) : PartReduced rows b c k := by
  obtain ⟨piv, hlen, hk, hmono, hpiv, hzero⟩ := h
  refine ⟨piv, hlen, hk, hmono, fun k' c' hp => ?_, fun i j hi hrow hj => ?_⟩
  · obtain ⟨hc, hcol, hleft⟩ := hpiv k' c' hp
    have hk' : k' < rows := by
      have := lt_length_of_getElem? hp
      omega
    exact ⟨hc, fun i hi => (hab i c' hi hc).trans (hcol i hi),
      fun j hj => (hab k' j hk' (hj.trans hc)).trans (hleft j hj)⟩
  · exact (hab i j hrow hj).trans (hzero i j hi hrow hj)

theorem partReduced_start (rows : Nat) (a : Nat → Nat → Byte) : PartReduced rows a 0 0 :=
  ⟨[], rfl, Nat.zero_le _, .nil, fun _ _ h => by simp at h, fun _ _ _ _ h => absurd h (Nat.not_lt_zero _)⟩

/-- A column without a candidate is zero below the pivot rows. -/
theorem PartReduced.skip {rows c k : Nat} {a : Nat → Nat → Byte} (h : PartReduced rows a c k)
    (hnone : ∀ i, k ≤ i → i < rows → a i c = 0) : PartReduced rows a (c + 1) k := by
  obtain ⟨piv, hlen, hk, hmono, hpiv, hzero⟩ := h
  refine ⟨piv, hlen, hk, hmono, fun k' c' hp => ?_, fun i j hi hrow hj => ?_⟩
  · obtain ⟨hc, hcol, hleft⟩ := hpiv k' c' hp
    exact ⟨Nat.lt_succ_of_lt hc, hcol, hleft⟩
  · obtain hj | rfl := Nat.lt_succ_iff_lt_or_eq.mp hj
    · exact hzero i j hi hrow hj
    · exact hnone i hi hrow

section
variable {rows c k r : Nat} {a : Nat → Nat → Byte} {q : Byte} (hkr : k ≤ r) (hr : r < rows)
include hkr hr

omit hkr hr in
/-- Where the columns done are zero in the pivot's row, the step only exchanges rows. -/
theorem pivoted_of_zero {j : Nat} (hj : a r j = 0) {i : Nat} (hi : i ≠ k) :
    pivoted a r k c q a i j = a (exchange r k i) j := by
  rw [pivoted_other _ _ _ _ _ hi, hj, gfMul_zero_right, gfMul_zero_right]
  exact BitVec.xor_zero

omit hkr hr in
/-- The pivot's column becomes a unit column. -/
theorem pivoted_column (hq : polyMul q (a r c) = 1) (i : Nat) :
    pivoted a r k c q a i c = if i = k then 1 else 0 := by
  rw [← gfMul_eq_polyMul] at hq
  by_cases hi : i = k
  · rw [hi, pivoted_self, hq, if_pos rfl]
  · rw [pivoted_other _ _ _ _ _ hi, hq, gfMul_one, if_neg hi]
    exact BitVec.xor_self

theorem PartReduced.pivot (h : PartReduced rows a c k) (hq : polyMul q (a r c) = 1) :
    PartReduced rows (pivoted a r k c q a) (c + 1) (k + 1) := by
  obtain ⟨piv, hlen, hk, hmono, hpiv, hzero⟩ := h
  have hrow : ∀ j, j < c → a r j = 0 := fun j hj => hzero r j hkr hr hj
  have hnew : ∀ j, j < c → pivoted a r k c q a k j = 0 := fun j hj => by
    rw [pivoted_self, hrow j hj, gfMul_zero_right]
  refine ⟨piv ++ [c], by simp [hlen], hkr.trans_lt hr, ?_, fun k' c' hp => ?_, fun i j hi hrow' hj => ?_⟩
  · refine List.pairwise_append.mpr ⟨hmono, List.pairwise_singleton _ _, fun x hx y hy => ?_⟩
    obtain ⟨k', hk'⟩ := List.getElem?_of_mem hx
    rw [List.mem_singleton.mp hy]
    exact (hpiv k' x hk').1
  · obtain hlt | hge := Nat.lt_or_ge k' piv.length
    · rw [List.getElem?_append_left hlt] at hp
      obtain ⟨hc, hcol, hleft⟩ := hpiv k' c' hp
      have hk' : k' < k := hlen ▸ hlt
      refine ⟨Nat.lt_succ_of_lt hc, fun i hi => ?_, fun j hj => ?_⟩
      · by_cases hik : i = k
        · rw [hik, hnew c' hc, if_neg hk'.ne']
        · rw [pivoted_of_zero (hrow c' hc) hik, hcol _ (exchange_lt hr (hkr.trans_lt hr) hi)]
          refine if_congr ?_ rfl rfl
          unfold exchange
          split
          · omega
          · exact Iff.rfl
      · rw [pivoted_of_zero (hrow j (hj.trans hc)) hk'.ne, exchange_of_lt hk' hkr, hleft j hj]
    · rw [List.getElem?_append_right hge, List.getElem?_singleton] at hp
      have hk' : k' = k := by
        by_contra hne
        rw [if_neg (by omega)] at hp
        contradiction
      subst hk'
      rw [if_pos (by omega)] at hp
      cases hp
      exact ⟨Nat.lt_succ_self c, fun i _ => pivoted_column hq i, hnew⟩
  · have hik : i ≠ k := by omega
    obtain hj | rfl := Nat.lt_succ_iff_lt_or_eq.mp hj
    · rw [pivoted_of_zero (hrow j hj) hik]
      exact hzero _ j (le_exchange hkr (by omega)) (exchange_lt hr (hkr.trans_lt hr) hrow') hj
    · rw [pivoted_column hq, if_neg hik]

end

/-- k pivots in k columns stand on the diagonal. -/
theorem PartReduced.diagonal {rows c : Nat} {a : Nat → Nat → Byte} (h : PartReduced rows a c c) {i j : Nat}
    (hi : i < rows) (hj : j < c) : a i j = if i = j then 1 else 0 := by
  obtain ⟨piv, hlen, -, hmono, hpiv, -⟩ := h
  have hsub : piv ⊆ List.range c := fun x hx => by
    obtain ⟨k', hk'⟩ := List.getElem?_of_mem hx
    exact List.mem_range.mpr (hpiv k' x hk').1
  have hnodup : piv.Nodup := hmono.imp fun h => h.ne
  have hperm : piv.Perm (List.range c) :=
    (List.subperm_of_subset hnodup hsub).perm_of_length_le (by simp [hlen])
  have hrange : piv = List.range c :=
    hperm.eq_of_pairwise (fun x y _ _ hxy hyx => absurd (hxy.trans hyx) (lt_irrefl x)) hmono List.pairwise_lt_range
  have hget : piv[j]? = some j := by rw [hrange, List.getElem?_range hj]
  exact (hpiv j j hget).2.1 i hi

variable {rows : Nat} {a₀ d₀ : Nat → Nat → Byte}

theorem ReducesTo.partReduced {c k : Nat} {a d : Nat → Nat → Byte} {σ : Nat → Nat}
    (h : ReducesTo rows a₀ d₀ c k a d σ) : PartReduced rows a c k := by
  induction h with
  | start => exact partReduced_start rows a₀
  | skip _ hnone ih => exact ih.skip hnone
  | pivot _ hkr hr _ _ hq ih => exact ih.pivot hkr hr hq

theorem ReducesTo.rank_le {c k : Nat} {a d : Nat → Nat → Byte} {σ : Nat → Nat}
    (h : ReducesTo rows a₀ d₀ c k a d σ) : k ≤ rows := by
  obtain ⟨-, -, hk, -⟩ := h.partReduced
  exact hk

theorem ReducesTo.rank_le_columns {c k : Nat} {a d : Nat → Nat → Byte} {σ : Nat → Nat}
    (h : ReducesTo rows a₀ d₀ c k a d σ) : k ≤ c := by
  induction h with
  | start => exact le_rfl
  | skip _ _ ih => exact Nat.le_succ_of_le ih
  | pivot _ _ _ _ _ _ ih => exact Nat.succ_le_succ ih

/-! The rows the positions hold. -/

theorem ReducesTo.position_lt {c k : Nat} {a d : Nat → Nat → Byte} {σ : Nat → Nat}
    (h : ReducesTo rows a₀ d₀ c k a d σ) {i : Nat} (hi : i < rows) : σ i < rows := by
  induction h generalizing i with
  | start => exact hi
  | skip _ _ ih => exact ih hi
  | pivot _ hkr hr _ _ _ ih => exact ih (exchange_lt hr (hkr.trans_lt hr) hi)

theorem ReducesTo.position_injective {c k : Nat} {a d : Nat → Nat → Byte} {σ : Nat → Nat}
    (h : ReducesTo rows a₀ d₀ c k a d σ) : Function.Injective σ := by
  induction h with
  | start => exact Function.injective_id
  | skip _ _ ih => exact ih
  | pivot _ _ _ _ _ _ ih => exact ih.comp (exchange_involutive _ _).injective

/-! What each row says of y: its sum on A and ε times its element of D. With ε = 1 the row holds for y when this is 0;
ε = 0 leaves D out. -/

/-- Row i of [A | D], at y and column q of D. -/
def residual (n : Nat) (ε : Byte) (y : Nat → Byte) (q : Nat) (a d : Nat → Nat → Byte) (i : Nat) : Byte :=
  dot n (a i) y ^^^ gfMul ε (d i q)

section
variable (n : Nat) (ε : Byte) (y : Nat → Byte) (q : Nat)

/-- A pivot step acts on the residuals as on any column. -/
theorem residual_pivoted (a d : Nat → Nat → Byte) (r k c : Nat) (β : Byte) (i : Nat) :
    residual n ε y q (pivoted a r k c β a) (pivoted a r k c β d) i =
      pivoted a r k c β (fun i _ => residual n ε y q a d i) i 0 := by
  by_cases hi : i = k
  · subst hi
    have hrow : pivoted a r i c β a i = fun j => gfMul β (a r j) := funext (pivoted_self a a r i c β)
    rw [pivoted_self, residual, pivoted_self, hrow, dot_mul_left, residual, gfMul_xor, gfMul_left_comm ε]
  · have hrow : pivoted a r k c β a i = fun j =>
        a (exchange r k i) j ^^^ gfMul (gfMul (a (exchange r k i) c) β) (a r j) :=
      funext fun j => by rw [pivoted_other _ _ _ _ _ hi, gfMul_assoc]
    rw [pivoted_other _ _ _ _ _ hi, residual, pivoted_other _ _ _ _ _ hi, hrow, dot_xor_left, dot_mul_left,
      gfMul_xor, ← gfMul_assoc _ β (d r q), gfMul_left_comm ε, ← gfMul_assoc _ β, residual, residual, gfMul_xor]
    ac_rfl

variable {n ε y q}

/-- A pivot step on one column of values, and when they are all 0. -/
theorem pivoted_all_zero_iff {a : Nat → Nat → Byte} {r k c : Nat} {β : Byte} {f : Nat → Byte} (hkr : k ≤ r)
    (hr : r < rows) (hβ : β ≠ 0) :
    (∀ i, i < rows → pivoted a r k c β (fun i _ => f i) i 0 = 0) ↔ ∀ i, i < rows → f i = 0 := by
  have hk := hkr.trans_lt hr
  constructor
  · intro h
    have hfr : f r = 0 := by
      have hself := h k hk
      rw [pivoted_self] at hself
      exact (gfMul_eq_zero_iff.mp hself).resolve_left hβ
    intro i hi
    by_cases hir : i = r
    · exact hir ▸ hfr
    · have hne : exchange r k i ≠ k := fun he => by
        have := congrArg (exchange r k) he
        rw [exchange_involutive, exchange_self_right] at this
        exact hir this
      have hother := h (exchange r k i) (exchange_lt hr hk hi)
      rw [pivoted_other _ _ _ _ _ hne, exchange_involutive, hfr, gfMul_zero_right, gfMul_zero_right] at hother
      exact BitVec.xor_zero.symm.trans hother
  · intro h i hi
    by_cases hik : i = k
    · rw [hik, pivoted_self, h r hr, gfMul_zero_right]
    · rw [pivoted_other _ _ _ _ _ hik, h _ (exchange_lt hr hk hi), h r hr, gfMul_zero_right, gfMul_zero_right,
        xor_eq_zero_iff]

theorem ne_zero_of_polyMul_eq_one {b x : Byte} (h : polyMul b x = 1) : b ≠ 0 := by
  rintro rfl
  rw [polyMul_zero_left] at h
  contradiction

/-- The elimination keeps the solutions. -/
theorem ReducesTo.all_residuals {c k : Nat} {a d : Nat → Nat → Byte} {σ : Nat → Nat}
    (h : ReducesTo rows a₀ d₀ c k a d σ) :
    (∀ i, i < rows → residual n ε y q a d i = 0) ↔ ∀ i, i < rows → residual n ε y q a₀ d₀ i = 0 := by
  induction h with
  | start => exact Iff.rfl
  | skip _ _ ih => exact ih
  | pivot _ hkr hr _ _ hq ih =>
    simp only [residual_pivoted]
    exact (pivoted_all_zero_iff hkr hr (ne_zero_of_polyMul_eq_one hq)).trans ih

/-- One column of values: the new pivot rows are 0 exactly when the old ones and row r are. -/
theorem pivoted_pivots_zero_iff {a : Nat → Nat → Byte} {r k c : Nat} {β : Byte} {f : Nat → Byte} (hkr : k ≤ r)
    (hβ : β ≠ 0) : (∀ i, i < k + 1 → pivoted a r k c β (fun i _ => f i) i 0 = 0) ↔
      (∀ i, i < k → f i = 0) ∧ f r = 0 := by
  constructor
  · intro h
    have hfr : f r = 0 := by
      have hself := h k (Nat.lt_succ_self k)
      rw [pivoted_self] at hself
      exact (gfMul_eq_zero_iff.mp hself).resolve_left hβ
    refine ⟨fun i hi => ?_, hfr⟩
    have hother := h i (Nat.lt_succ_of_lt hi)
    rw [pivoted_other _ _ _ _ _ hi.ne, exchange_of_lt hi hkr, hfr, gfMul_zero_right, gfMul_zero_right] at hother
    exact BitVec.xor_zero.symm.trans hother
  · rintro ⟨h, hfr⟩ i hi
    obtain hi | rfl := Nat.lt_succ_iff_lt_or_eq.mp hi
    · rw [pivoted_other _ _ _ _ _ hi.ne, exchange_of_lt hi hkr, h i hi, hfr, gfMul_zero_right, gfMul_zero_right,
        xor_eq_zero_iff]
    · rw [pivoted_self, hfr, gfMul_zero_right]

/-- The rows at the first k + 1 positions after the exchange. -/
theorem forall_exchange_iff {p : Nat → Prop} {r k : Nat} (hkr : k ≤ r) :
    (∀ i, i < k + 1 → p (exchange r k i)) ↔ (∀ i, i < k → p i) ∧ p r := by
  constructor
  · intro h
    refine ⟨fun i hi => ?_, ?_⟩
    · have := h i (Nat.lt_succ_of_lt hi)
      rwa [exchange_of_lt hi hkr] at this
    · have := h k (Nat.lt_succ_self k)
      rwa [exchange_self_right] at this
  · rintro ⟨h, hr⟩ i hi
    obtain hi | rfl := Nat.lt_succ_iff_lt_or_eq.mp hi
    · rw [exchange_of_lt hi hkr]
      exact h i hi
    · rwa [exchange_self_right]

/-- The pivot rows say together what the rows they were picked from say, and modulo these every other row is the row it
stands for. -/
theorem ReducesTo.pivot_residuals {c k : Nat} {a d : Nat → Nat → Byte} {σ : Nat → Nat}
    (h : ReducesTo rows a₀ d₀ c k a d σ) :
    ((∀ i, i < k → residual n ε y q a d i = 0) ↔ ∀ i, i < k → residual n ε y q a₀ d₀ (σ i) = 0) ∧
      ((∀ i, i < k → residual n ε y q a d i = 0) →
        ∀ i, k ≤ i → i < rows → residual n ε y q a d i = residual n ε y q a₀ d₀ (σ i)) := by
  induction h with
  | start => exact ⟨⟨fun _ => nofun, fun _ => nofun⟩, fun _ _ _ _ => rfl⟩
  | skip _ _ ih => exact ih
  | @pivot c k r β a d σ _ hkr hr _ _ hq ih =>
    simp only [residual_pivoted]
    generalize residual n ε y q a d = f at ih
    generalize residual n ε y q a₀ d₀ = f₀ at ih
    obtain ⟨hiff, hrest⟩ := ih
    have hpivots := pivoted_pivots_zero_iff (a := a) (c := c) (f := f) hkr (ne_zero_of_polyMul_eq_one hq)
    refine ⟨?_, fun hzero i hi hrow => ?_⟩
    · rw [hpivots, forall_exchange_iff (p := fun i => f₀ (σ i) = 0) hkr, ← hiff]
      exact and_congr_right fun h => by rw [hrest h r hkr hr]
    · obtain ⟨hold, hfr⟩ := hpivots.mp hzero
      have hik : i ≠ k := by omega
      rw [pivoted_other _ _ _ _ _ hik, hfr, gfMul_zero_right, gfMul_zero_right]
      refine BitVec.xor_zero.trans (hrest hold _ (le_exchange hkr (by omega)) ?_)
      exact exchange_lt hr (hkr.trans_lt hr) hrow

end

/-! A column without a pivot gives a null vector (R333: the rank is short). -/

/-- Terms that are 0 add nothing. -/
theorem dot_of_tail_zero {m n : Nat} (hmn : m ≤ n) (f : Nat → Byte) {g : Nat → Byte} (hg : ∀ j, m ≤ j → g j = 0) :
    dot n f g = dot m f g := by
  induction n, hmn using Nat.le_induction with
  | base => rfl
  | succ n hn ih =>
    rw [dot_succ, ih, hg n hn, gfMul_zero_right]
    exact BitVec.xor_zero

/-- The vector that column c of a is minus itself of the unit columns before it. -/
def nullVector (a : Nat → Nat → Byte) (c : Nat) (j : Nat) : Byte :=
  if j < c then a j c else if j = c then 1 else 0

theorem dot_nullVector {n c i : Nat} {a : Nat → Nat → Byte} (hn : c < n)
    (hdiag : ∀ j, j < c → a i j = if i = j then 1 else 0) :
    dot n (a i) (nullVector a c) = (if i < c then a i c else 0) ^^^ a i c := by
  have htail : ∀ j, c + 1 ≤ j → nullVector a c j = 0 := fun j hj => by
    rw [nullVector, if_neg (by omega), if_neg (by omega)]
  have hhead : ∀ j, j < c → nullVector a c j = a j c := fun j hj => if_pos hj
  have hunit : ∀ j, j < c → a i j = if j = i then 1 else 0 := fun j hj => by
    rw [hdiag j hj]
    exact if_congr eq_comm rfl rfl
  have hself : nullVector a c c = 1 := by rw [nullVector, if_neg (lt_irrefl c), if_pos rfl]
  rw [dot_of_tail_zero hn _ htail, dot_succ, dot_congr hunit hhead, dot_single, hself, gfMul_one, one_gfMul]

/-- Fewer pivots than columns: some y that is not 0 on these columns is orthogonal to every row. -/
theorem ReducesTo.exists_null {c k : Nat} {a d : Nat → Nat → Byte} {σ : Nat → Nat}
    (h : ReducesTo rows a₀ d₀ c k a d σ) (hk : k < c) {n : Nat} (hn : c ≤ n) :
    ∃ y : Nat → Byte, (∃ j, j < c ∧ y j ≠ 0) ∧ ∀ i, i < rows → dot n (a₀ i) y = 0 := by
  induction h with
  | start => contradiction
  | pivot _ _ _ _ _ _ ih =>
    obtain ⟨y, ⟨j, hj, hy⟩, hnull⟩ := ih (Nat.lt_of_succ_lt_succ hk) (Nat.le_of_succ_le hn)
    exact ⟨y, ⟨j, Nat.lt_succ_of_lt hj, hy⟩, hnull⟩
  | @skip c k a d σ h hnone ih =>
    obtain hk | rfl := Nat.lt_succ_iff_lt_or_eq.mp hk
    · obtain ⟨y, ⟨j, hj, hy⟩, hnull⟩ := ih hk (Nat.le_of_succ_le hn)
      exact ⟨y, ⟨j, Nat.lt_succ_of_lt hj, hy⟩, hnull⟩
    · have hself : nullVector a k k ≠ 0 := by
        rw [nullVector, if_neg (lt_irrefl k), if_pos rfl]
        decide
      have hzero : ∀ i, i < rows → residual n 0 (nullVector a k) 0 a d i = 0 := fun i hi => by
        rw [residual, gfMul_zero_left, dot_nullVector hn fun j hj => h.partReduced.diagonal hi hj]
        refine BitVec.xor_zero.trans ?_
        by_cases hik : i < k
        · rw [if_pos hik]
          exact BitVec.xor_self
        · rw [if_neg hik, hnone i (Nat.le_of_not_lt hik) hi, xor_eq_zero_iff]
      refine ⟨nullVector a k, ⟨k, Nat.lt_succ_self k, hself⟩, fun i hi => ?_⟩
      have hstart := h.all_residuals.mp hzero i hi
      rw [residual, gfMul_zero_left] at hstart
      exact BitVec.xor_zero.symm.trans hstart

end Sys2Proof.Machine
end

section
/-! PROOFS. The machine's elimination is `ReducesTo`'s (46_gauss.md R313), and `GERREF`. -/

namespace Sys2Proof.Machine

/-- The three row operations of one pivot, on A or on D (R302). -/
def pivotRows (r k : Nat) (q : Byte) (f : Nat → Byte) (m : ByteMatrix) : ByteMatrix :=
  ((m.swapRows r k).scaleRow k q).axpyRows k f

theorem swapped_scaled_e {m : ByteMatrix} {r k i j : Nat} (q : Byte) (hi : i < m.rows) (hj : j < m.cols) :
    ((m.swapRows r k).scaleRow k q).e i j = if i = k then gfMul q (m.e r j) else m.e (exchange r k i) j := by
  rw [scaleRow_e (m.swapRows r k) k q i j hi hj, swapRows_e m r k i j hi hj]
  refine ite_congr rfl (fun h => ?_) fun _ => rfl
  rw [h, exchange_self_right]

theorem pivotRows_e {a b : Nat → Nat → Byte} {r k c : Nat} {m : ByteMatrix} {q : Byte} {f : Nat → Byte} {i j : Nat}
    (hm : ∀ i j, i < m.rows → j < m.cols → m.e i j = b i j) (hfk : f k = 0)
    (hf : ∀ i, i < m.rows → i ≠ k → f i = a (exchange r k i) c) (hr : r < m.rows) (hk : k < m.rows) (hi : i < m.rows)
    (hj : j < m.cols) : (pivotRows r k q f m).e i j = pivoted a r k c q b i j := by
  rw [pivotRows, axpyRows_e ((m.swapRows r k).scaleRow k q) k f i j hi hj, swapped_scaled_e q hi hj,
    swapped_scaled_e q hk hj, if_pos rfl, hm r j hr hj]
  by_cases hik : i = k
  · rw [if_pos hik, hik, hfk, gfMul_zero_left, pivoted_self]
    exact BitVec.xor_zero
  · rw [if_neg hik, hf i hi hik, pivoted_other _ _ _ _ _ hik, hm _ j (exchange_lt hr hk hi) hj]

/-- The multiples that clear column c of A outside row k. -/
def clearing (r k c : Nat) (m : ByteMatrix) (q : Byte) (i : Nat) : Byte :=
  if i = k then 0 else ((m.swapRows r k).scaleRow k q).e i c

theorem reduceColumn_some {t : Augmented} {r k c : Nat}
    (h : leastIn k t.a.rows (fun i => t.a.e i c != 0) = some r) (hk : k < t.a.rows)
    (hc : c < t.a.cols) : reduceColumn 0 (t, k) c =
      ({ a := pivotRows r k (gfInvNz (t.a.e r c)) (clearing r k c t.a (gfInvNz (t.a.e r c))) t.a
         d := t.d.map (pivotRows r k (gfInvNz (t.a.e r c)) (clearing r k c t.a (gfInvNz (t.a.e r c))))
         pr := t.pr.map (swapEntries r k), pc := t.pc }, k + 1) := by
  have hpivot : (t.a.swapRows r k).e k c = t.a.e r c := by
    rw [swapRows_e t.a r k k c hk hc, exchange_self_right]
  simp only [reduceColumn, h, Augmented.swapRows, Augmented.scaleRow, Augmented.axpyRows, hpivot, Option.map_map,
    Nat.not_lt_zero, or_false]
  rfl

theorem reduceColumn_none {base c : Nat} {st : Augmented × Nat}
    (h : leastIn st.2 st.1.a.rows (fun i => st.1.a.e i c != 0) = none) : reduceColumn base st c = st := by
  rw [reduceColumn, h]

/-- t stands where t₀ stood and holds the rows a of A and d of D, and t₀'s list entries at the positions σ. -/
structure Tracks (t₀ t : Augmented) (a d : Nat → Nat → Byte) (σ : Nat → Nat) : Prop where
  inPlace : t₀.InPlace t
  coefficients : ∀ i j, i < t₀.a.rows → j < t₀.a.cols → t.a.e i j = a i j
  rightHand : ∀ o, t.d = some o → ∀ i j, i < o.rows → j < o.cols → o.e i j = d i j
  rowList : ∀ p₀ p, t₀.pr = some p₀ → t.pr = some p → ∀ i, i < p₀.length → indexAt p i = indexAt p₀ (σ i)

theorem Augmented.InPlace.fits {t u : Augmented} (h : t.InPlace u) (hf : t.Fits) : u.Fits := by
  obtain ⟨ha, hd, hpr, hpc⟩ := h
  obtain ⟨a, d, pr, pc⟩ := t
  obtain ⟨a', d', pr', pc'⟩ := u
  refine ⟨fun o ho => ?_, fun o ho => ?_, fun o ho => ?_⟩
  · subst ho
    cases hd with
    | some hs => exact hs.rows.trans ((hf.dRows _ rfl).trans ha.rows.symm)
  · subst ho
    cases hpr with
    | some hs => exact Eq.trans hs ((hf.prLength _ rfl).trans ha.rows.symm)
  · subst ho
    cases hpc with
    | some hs => exact Eq.trans hs ((hf.pcLength _ rfl).trans ha.cols.symm)

theorem Augmented.InPlace.d_some {t u : Augmented} (h : t.InPlace u) {o : ByteMatrix} (ho : t.d = some o) :
    ∃ o', u.d = some o' ∧ SameForm o o' := by
  have hrel := h.d
  rw [ho] at hrel
  generalize u.d = ud at hrel ⊢
  cases hrel with
  | some hs => exact ⟨_, rfl, hs⟩

theorem Augmented.InPlace.pr_some {t u : Augmented} (h : t.InPlace u) {p : List Word} (hp : t.pr = some p) :
    ∃ p', u.pr = some p' ∧ p'.length = p.length := by
  have hrel := h.pr
  rw [hp] at hrel
  generalize u.pr = upr at hrel ⊢
  cases hrel with
  | some hs => exact ⟨_, rfl, hs⟩

/-- The right-hand side as `ReducesTo` takes it: 0 when there is none. -/
def rightHandOf (d : Option ByteMatrix) : Nat → Nat → Byte := match d with
  | some o => o.e
  | none => fun _ _ => 0

theorem tracks_start (t : Augmented) : Tracks t t t.a.e (rightHandOf t.d) id where
  inPlace := .refl t
  coefficients _ _ _ _ := rfl
  rightHand o ho i j _ _ := by rw [ho]; rfl
  rowList p₀ p h₀ h i _ := by
    obtain rfl : p₀ = p := Option.some.inj (h₀.symm.trans h)
    rfl

theorem indexAt_swapEntries {r k i : Nat} {p : List Word} (hi : i < p.length) :
    indexAt (swapEntries r k p) i = indexAt p (exchange r k i) := by
  rw [swapEntries, indexAt_newIndex _ _ _ hi, swapFn_eq]

section
variable {t₀ t : Augmented} {a d : Nat → Nat → Byte} {σ : Nat → Nat} {r k c : Nat}

theorem Tracks.pivot (hf : t₀.Fits) (h : Tracks t₀ t a d σ) (hkr : k ≤ r) (hr : r < t₀.a.rows) (hc : c < t₀.a.cols)
    (hleast : leastIn k t.a.rows (fun i => t.a.e i c != 0) = some r) :
    Tracks t₀ (reduceColumn 0 (t, k) c).1 (pivoted a r k c (gfInvNz (a r c)) a)
      (pivoted a r k c (gfInvNz (a r c)) d) fun i => σ (exchange r k i) := by
  have hplace := h.inPlace.trans (inPlace_reduceColumn 0 (t, k) c)
  have hk : k < t₀.a.rows := hkr.trans_lt hr
  obtain ⟨hin, hcoeff, hright, hlist⟩ := h
  have hfit := hin.fits hf
  obtain ⟨hrows, hcols, -, -⟩ := hin.a
  rw [← hrows, ← hcols] at hcoeff
  rw [← hrows] at hr hk
  rw [← hcols] at hc
  rw [reduceColumn_some hleast hk hc, hcoeff r c hr hc] at hplace ⊢
  have hfk : clearing r k c t.a (gfInvNz (a r c)) k = 0 := if_pos rfl
  have hfi : ∀ i, i < t.a.rows → i ≠ k → clearing r k c t.a (gfInvNz (a r c)) i = a (exchange r k i) c :=
    fun i hi hik => by
      rw [clearing, if_neg hik, swapped_scaled_e _ hi hc, if_neg hik, hcoeff _ _ (exchange_lt hr hk hi) hc]
  refine ⟨hplace, fun i j hi hj => ?_, fun o ho i j hi hj => ?_, fun p₀ p h₀ hp i hi => ?_⟩
  · exact pivotRows_e hcoeff hfk hfi hr hk (hrows.symm ▸ hi) (hcols.symm ▸ hj)
  · obtain ⟨o', ho', rfl⟩ := Option.map_eq_some_iff.mp ho
    have hd := hfit.dRows o' ho'
    rw [← hd] at hr hk hfi
    exact pivotRows_e (hright o' ho') hfk hfi hr hk hi hj
  · obtain ⟨p', hp', rfl⟩ := Option.map_eq_some_iff.mp hp
    have hlen₀ := (hf.prLength p₀ h₀).trans hrows.symm
    have hlen := (hfit.prLength p' hp').trans hlen₀.symm
    have hx : exchange r k i < p₀.length := hlen₀ ▸ exchange_lt hr hk (hlen₀ ▸ hi)
    rw [indexAt_swapEntries (hlen.symm ▸ hi), hlist p₀ p' h₀ hp' _ hx]

/-- The machine's loop over the columns below c is `ReducesTo`'s. -/
theorem foldl_reduceColumn_reducesTo (hf : t₀.Fits) {c : Nat} (hc : c ≤ t₀.a.cols) :
    ∃ a d σ, ReducesTo t₀.a.rows t₀.a.e (rightHandOf t₀.d) c
        ((List.range c).foldl (reduceColumn 0) (t₀, 0)).2 a d σ ∧
      Tracks t₀ ((List.range c).foldl (reduceColumn 0) (t₀, 0)).1 a d σ := by
  induction c with
  | zero => exact ⟨_, _, _, .start, tracks_start t₀⟩
  | succ c ih =>
    obtain ⟨a, d, σ, hred, htr⟩ := ih (Nat.le_of_succ_le hc)
    rw [List.range_succ, List.foldl_append, List.foldl_cons, List.foldl_nil]
    generalize (List.range c).foldl (reduceColumn 0) (t₀, 0) = st at hred htr
    obtain ⟨t, k⟩ := st
    have hrows := htr.inPlace.a.rows
    have hzero {i : Nat} (hi : i < t₀.a.rows) : (t.a.e i c != 0) = false ↔ a i c = 0 := by
      rw [htr.coefficients i c hi hc, bne_eq_false_iff_eq]
    cases hleast : leastIn k t.a.rows (fun i => t.a.e i c != 0) with
    | none =>
      rw [reduceColumn_none hleast]
      exact ⟨a, d, σ, hred.skip fun i hi hlt => (hzero hlt).mp (leastIn_eq_none hleast i hi (hrows.symm ▸ hlt)), htr⟩
    | some r =>
      obtain ⟨hkr, hr, hne, hbefore⟩ := leastIn_eq_some hleast
      rw [hrows] at hr
      have hpivot : a r c ≠ 0 := fun h0 => by rw [(hzero hr).mpr h0] at hne; contradiction
      have hinv : polyMul (gfInvNz (a r c)) (a r c) = 1 := by
        rw [← gfMul_eq_polyMul, gfMul_comm, gfMul_gfInvNz hpivot]
      have hcount : (reduceColumn 0 (t, k) c).2 = k + 1 := by simp only [reduceColumn, hleast]
      rw [hcount]
      exact ⟨_, _, _, hred.pivot hkr hr hpivot (fun i hi hlt => (hzero (hlt.trans hr)).mp (hbefore i hi hlt)) hinv,
        htr.pivot hf hkr hr hc hleast⟩

theorem gaussJordan_reducesTo (hf : t₀.Fits) :
    ∃ a d σ, ReducesTo t₀.a.rows t₀.a.e (rightHandOf t₀.d) t₀.a.cols
        (gaussJordan 0 (List.range t₀.a.cols) t₀).2 a d σ ∧
      Tracks t₀ (gaussJordan 0 (List.range t₀.a.cols) t₀).1 a d σ := foldl_reduceColumn_reducesTo hf le_rfl

end

/-! `GERREF`. -/

theorem residual_eq_zero_iff {n : Nat} {ε : Byte} {y : Nat → Byte} {q : Nat} {a d : Nat → Nat → Byte} {i : Nat} :
    residual n ε y q a d i = 0 ↔ dot n (a i) y = gfMul ε (d i q) := xor_eq_zero_iff

/-- The reduction keeps the solutions of A·x = ε · D's column q. -/
theorem satisfies_reduced {m m' : ByteMatrix} {a d₀ d : Nat → Nat → Byte} {σ : Nat → Nat} {c k : Nat}
    {b b' : Nat → Byte}
    (h : ReducesTo m.rows m.e d₀ c k a d σ) (hrows : m'.rows = m.rows) (hcols : m'.cols = m.cols)
    (ha : ∀ i j, i < m.rows → j < m.cols → m'.e i j = a i j) (ε : Byte) (q : Nat)
    (hb : ∀ i, i < m.rows → b i = gfMul ε (d₀ i q)) (hb' : ∀ i, i < m.rows → b' i = gfMul ε (d i q))
    (y : Nat → Byte) : Satisfies m b y ↔ Satisfies m' b' y := by
  have hres := h.all_residuals (n := m.cols) (ε := ε) (y := y) (q := q)
  simp only [residual_eq_zero_iff] at hres
  simp only [Satisfies, hrows, hcols]
  refine Iff.trans ?_ (hres.symm.trans ?_)
  · exact forall_congr' fun i => forall_congr' fun hi => by rw [hb i hi]
  · exact forall_congr' fun i => forall_congr' fun hi => by
      rw [hb' i hi, dot_congr (fun j hj => ha i j hi hj) fun _ _ => rfl]

/-- Entries taken from different positions are the list's, in another order. -/
theorem HasEntries.perm {o : Option (List Word)} {p : List Word} {σ : Nat → Nat}
    (h : HasEntries o p.length fun i => p.getD (σ i) 0) (hσ : ∀ i, i < p.length → σ i < p.length)
    (hinj : Function.Injective σ) : ∃ p', o = some p' ∧ p'.Perm p := by
  obtain ⟨p', ho, hlen, hentry⟩ := h
  refine ⟨p', ho, ?_⟩
  have hrange : ((List.range p.length).map σ).Perm (List.range p.length) := by
    refine (List.subperm_of_subset (List.nodup_range.map hinj) fun x hx => ?_).perm_of_length_le (by simp)
    obtain ⟨i, hi, rfl⟩ := List.mem_map.mp hx
    exact List.mem_range.mpr (hσ i (List.mem_range.mp hi))
  have hp' : (List.range p.length).map (indexAt p ∘ σ) = p' := by
    refine List.ext_getElem (by simp [hlen]) fun i hi hi' => ?_
    have := (List.getElem?_eq_getElem hi').symm.trans (hentry i (hlen ▸ hi'))
    simpa [indexAt] using (Option.some.inj this).symm
  have hp : (List.range p.length).map (indexAt p) = p := newIndex_indexAt p
  have hmap := hrange.map (indexAt p)
  rwa [List.map_map, hp', hp] at hmap

section
variable {s : State} {a : ByteMatrix} {d : Option ByteMatrix} {pr pc : Option (List Word)} {u : Augmented}
  {a' d' : Nat → Nat → Byte} {σ : Nat → Nat}

/-- D written back. -/
theorem Tracks.hasElems (htr : Tracks ⟨a, d, pr, pc⟩ u a' d' σ) {o : ByteMatrix} (ho : d = some o)
    (hwf : o.wf = true) : HasElems ((s.putContext u).getM s.ge.d) o.rows o.cols o.repr d' := by
  obtain ⟨o', ho', hs⟩ := htr.inPlace.d_some ho
  exact ⟨o', putContext_d ho', hs.wf hwf, hs.rows, hs.cols, hs.repr, fun i j hi hj =>
    htr.rightHand o' ho' i j (hs.rows.symm ▸ hi) (hs.cols.symm ▸ hj)⟩

/-- The row list written back. -/
theorem ContextIs.hasEntries (h : ContextIs s a d pr pc) (htr : Tracks ⟨a, d, pr, pc⟩ u a' d' σ) {p : List Word}
    (hp : pr = some p) : HasEntries ((s.putContext u).getP s.ge.pr) p.length fun i => p.getD (σ i) 0 := by
  obtain ⟨p', hp', hlen⟩ := htr.inPlace.pr_some hp
  refine ⟨p', h.putContext_pr htr.inPlace hp', hlen, fun i hi => ?_⟩
  rw [List.getElem?_eq_getElem (hlen.symm ▸ hi), ← List.getD_eq_getElem p' 0 (hlen.symm ▸ hi)]
  exact congrArg some (htr.rowList p p' hp hp' i hi)

end

/-- Settles O51: the loop is `ReducesTo`'s, which reaches the form and keeps the solutions. -/
theorem gerrefReducesAndKeepsSolutions : Obligations.GerrefReducesAndKeepsSolutions := by
  unfold Obligations.GerrefReducesAndKeepsSolutions
  intro s a d pr pc x h hwf hdwf
  obtain ⟨a', d', σ, hred, htr⟩ := gaussJordan_reducesTo (t₀ := ⟨a, d, pr, pc⟩) ⟨h.dRows, h.prLength, h.pcLength⟩
  have hpc := gaussJordan_pc 0 (List.range a.cols) ⟨a, d, pr, pc⟩
  have hexec : exec (.gerref x) s = finish s (.ok ((s.putContext
      (gaussJordan 0 (List.range a.cols) ⟨a, d, pr, pc⟩).1).setX x
      (countWord (gaussJordan 0 (List.range a.cols) ⟨a, d, pr, pc⟩).2))) :=
    congrArg (finish s) (h.withContext_eq _)
  generalize gaussJordan 0 (List.range a.cols) ⟨a, d, pr, pc⟩ = st at hred htr hpc hexec
  obtain ⟨u, r⟩ := st
  have hM (k : MSlot) : (retire ((s.putContext u).setX x (countWord r))).getM k = (s.putContext u).getM k :=
    State.getM_setX _ x _ k
  have hP (k : PSlot) : (retire ((s.putContext u).setX x (countWord r))).getP k = (s.putContext u).getP k :=
    State.getP_setX _ x _ k
  obtain ⟨hrows, hcols, hrepr, hmwf⟩ := htr.inPlace.a
  have hpart : PartReduced u.a.rows u.a.e u.a.cols r := by
    rw [hrows, hcols]
    exact hred.partReduced.congr htr.coefficients
  have hD : ∀ o, d = some o → HasElems ((s.putContext u).getM s.ge.d) o.rows o.cols o.repr d' :=
    fun o ho => htr.hasElems ho (hdwf o ho)
  refine completes_of_commits hexec ((commits_systemAndRowList h.parts htr.inPlace hpc).trans (commits_setX _ x _)
    (List.subset_cons_self _ _) (by simp)) ⟨u.a, r, (hM _).trans (h.putContext_a htr.inPlace), hmwf hwf, hrows, hcols,
    hrepr, (isReduced_iff ..).mpr hpart, State.getX_setX_self _ x _, ?_, fun o ho => ?_, fun p hp => ?_,
    ⟨a', d', σ, hred, htr.coefficients, fun o ho => hM _ ▸ hD o ho, fun p hp => hP _ ▸ h.hasEntries htr hp⟩,
    fun hsquare hr i j hi hj => ?_⟩
  · exact satisfies_reduced hred hrows hcols htr.coefficients 0 0 (fun _ _ => (gfMul_zero_left _).symm)
      fun _ _ => (gfMul_zero_left _).symm
  · obtain ⟨o', ho', hwf', hrows', hcols', hrepr', helem⟩ := hD o ho
    refine ⟨o', (hM _).trans ho', hwf', hrows', hcols', hrepr', fun q hq => ?_⟩
    subst ho
    refine satisfies_reduced hred hrows hcols htr.coefficients 1 q (fun _ _ => (one_gfMul _).symm) fun i hi => ?_
    rw [one_gfMul, helem i q ((h.dRows o rfl).symm ▸ hi) hq]
  · rw [hP]
    refine (h.hasEntries htr hp).perm (fun i hi => ?_) hred.position_injective
    rw [h.prLength p hp] at hi ⊢
    exact hred.position_lt hi
  · subst hr
    rw [hrows, hcols, ← hsquare] at hpart
    exact hpart.diagonal hi (hsquare.symm ▸ hj)

end Sys2Proof.Machine
end

section
/-! PROOFS. What the solver computes (47_solver.md R333, R334): the pivot rows of the elimination are L rows with an
invertible submatrix, and the answer is their solution. -/

namespace Sys2Proof.Machine

/-! The collected system. -/

theorem coefficient_dot {l i : Nat} {rows : List (List Byte × List Byte)} (hi : i < rows.length) (y : Nat → Byte) :
    dot l ((coefficientMatrix l rows).e i) y = dot l (vecAt (rows.getD i ([], [])).1) y :=
  dot_congr (fun _ hj => newMatrix_e _ _ _ _ _ _ hi hj) fun _ _ => rfl

theorem symbol_e {t i q : Nat} {rows : List (List Byte × List Byte)} (hi : i < rows.length) (hq : q < t) :
    (symbolMatrix t rows).e i q = vecAt (rows.getD i ([], [])).2 q := newMatrix_e _ _ _ _ _ _ hi hq

theorem forall_row_iff {rows : List (List Byte × List Byte)} {p : List Byte × List Byte → Prop} :
    (∀ row ∈ rows, p row) ↔ ∀ i, i < rows.length → p (rows.getD i ([], [])) := by
  constructor
  · intro h i hi
    rw [List.getD_eq_getElem _ _ hi]
    exact h _ (List.getElem_mem hi)
  · intro h row hrow
    obtain ⟨i, hi, rfl⟩ := List.getElem_of_mem hrow
    have := h i hi
    rwa [List.getD_eq_getElem _ _ hi] at this

theorem fullRank_iff {l : Nat} {rows : List (List Byte × List Byte)} : FullRank l rows ↔
    ∀ y : Nat → Byte, (∀ i, i < rows.length → dot l ((coefficientMatrix l rows).e i) y = 0) → ∀ j, j < l → y j = 0 := by
  refine forall_congr' fun y => imp_congr_left (forall_row_iff.trans ?_)
  exact forall_congr' fun i => forall_congr' fun hi => by rw [coefficient_dot hi]

/-- Rank L depends on which rows there are, and more rows keep it. -/
theorem FullRank.mono {l : Nat} {rows rows' : List (List Byte × List Byte)} (h : FullRank l rows)
    (hsub : rows ⊆ rows') : FullRank l rows' := fun y hy => h y fun row hrow => hy row (hsub hrow)

/-- With rank L the answer of a set of rows is unique. -/
theorem FullRank.unique {l t : Nat} {rows : List (List Byte × List Byte)} (h : FullRank l rows)
    {x x' : Nat → Nat → Byte} (hx : ∀ row ∈ rows, RowHolds l t row x) (hx' : ∀ row ∈ rows, RowHolds l t row x')
    {j q : Nat} (hj : j < l) (hq : q < t) : x j q = x' j q := by
  refine xor_eq_zero_iff.mp (h (fun j => x j q ^^^ x' j q) (fun row hrow => ?_) j hj)
  rw [dot_comm, dot_xor_left, dot_comm l _ (vecAt row.1), dot_comm l _ (vecAt row.1), hx row hrow q hq,
    hx' row hrow q hq]
  exact BitVec.xor_self

/-! The elimination on the collected rows in the order given. -/

/-- A pivot row of a reduction without a gap says one element of y. -/
theorem ReducesTo.solved_residual {rows c : Nat} {a₀ d₀ a d : Nat → Nat → Byte} {σ : Nat → Nat}
    (h : ReducesTo rows a₀ d₀ c c a d σ) {i : Nat} (hi : i < c) (ε : Byte) (y : Nat → Byte) (q : Nat) :
    residual c ε y q a d i = 0 ↔ y i = gfMul ε (d i q) := by
  have hunit : ∀ j, j < c → a i j = if j = i then 1 else 0 := fun j hj => by
    rw [h.partReduced.diagonal (hi.trans_le h.rank_le) hj]
    exact if_congr eq_comm rfl rfl
  rw [residual_eq_zero_iff, dot_congr hunit fun _ _ => rfl, dot_single, if_pos hi, one_gfMul]

/-- What the elimination made of the rows. -/
theorem solveInOrder_reducesTo (l t : Nat) (rows : List (List Byte × List Byte)) :
    ∃ k a d σ, ReducesTo rows.length (coefficientMatrix l rows).e (symbolMatrix t rows).e l k a d σ ∧
      solveInOrder l t rows = if k = l then some ((List.range l).map fun i => newVector t (d i)) else none := by
  have hfits : (collectedSystem l t rows).Fits := ⟨fun o ho => by cases ho; rfl, fun _ => nofun, fun _ => nofun⟩
  obtain ⟨a, d, σ, hred, htr⟩ := gaussJordan_reducesTo hfits
  refine ⟨_, a, d, σ, hred, ?_⟩
  obtain ⟨o, ho, hform⟩ := htr.inPlace.d_some rfl
  have hright := htr.rightHand o ho
  change (if (gaussJordan 0 (List.range l) (collectedSystem l t rows)).2 = l then _ else _) = _
  by_cases hk : (gaussJordan 0 (List.range l) (collectedSystem l t rows)).2 = l
  · refine (if_pos hk).trans ((congrArg some (List.map_congr_left fun i hi => ?_)).trans (if_pos hk).symm)
    have hrow : i < o.rows := (List.mem_range.mp hi).trans_le ((hk.symm.le.trans hred.rank_le).trans hform.rows.symm.le)
    rw [show (gaussJordan 0 (List.range l) (collectedSystem l t rows)).1.d = some o from ho]
    exact newVector_congr fun q hq => hright i q hrow (hq.trans_le hform.cols.symm.le)
  · exact (if_neg hk).trans (if_neg hk).symm

/-- X, as its rows, is the solution of L rows with an invertible submatrix, those at the positions `set` (R333(b)). -/
structure SolvesSubset (l t : Nat) (rows : List (List Byte × List Byte)) (sol : List (List Byte)) (set : List Nat) :
    Prop where
  nodup : set.Nodup
  length : set.length = l
  inRange : ∀ k ∈ set, k < rows.length
  fullRank : FullRank l (set.map fun k => rows.getD k ([], []))
  holds : ∀ k ∈ set, RowHolds l t (rows.getD k ([], [])) fun j q => vecAt (sol.getD j []) q

/-- The rows at positions σ hold for y and column q exactly when the elimination's answer is y. -/
theorem ReducesTo.picked_iff {l t : Nat} {rows : List (List Byte × List Byte)} {a d : Nat → Nat → Byte} {σ : Nat → Nat}
    (h : ReducesTo rows.length (coefficientMatrix l rows).e (symbolMatrix t rows).e l l a d σ) (ε : Byte)
    (y : Nat → Byte) (q : Nat) :
    (∀ i, i < l → y i = gfMul ε (d i q)) ↔ ∀ i, i < l →
      dot l (vecAt (rows.getD (σ i) ([], [])).1) y = gfMul ε ((symbolMatrix t rows).e (σ i) q) := by
  have hres := (h.pivot_residuals (n := l) (ε := ε) (y := y) (q := q)).1
  refine Iff.trans ?_ (hres.trans ?_)
  · exact forall_congr' fun i => forall_congr' fun hi => (h.solved_residual hi ε y q).symm
  · exact forall_congr' fun i => forall_congr' fun hi => by
      rw [residual_eq_zero_iff, coefficient_dot (h.position_lt (hi.trans_le h.rank_le))]

theorem solution_entry {l t : Nat} {d : Nat → Nat → Byte} {i q : Nat} (hi : i < l) (hq : q < t) :
    vecAt (((List.range l).map fun i => newVector t (d i)).getD i []) q = d i q := by
  rw [List.getD_eq_getElem _ _ (by simpa using hi), List.getElem_map, List.getElem_range, vecAt_newVector _ _ _ hq]

theorem solveInOrder_solvesSubset {l t : Nat} {rows : List (List Byte × List Byte)} {sol : List (List Byte)}
    (h : solveInOrder l t rows = some sol) : ∃ set, SolvesSubset l t rows sol set := by
  obtain ⟨k, a, d, σ, hred, hsol⟩ := solveInOrder_reducesTo l t rows
  rw [h] at hsol
  split at hsol
  next hk =>
    subst hk
    cases hsol
    have hin (i : Nat) (hi : i < k) : σ i < rows.length := hred.position_lt (hi.trans_le hred.rank_le)
    refine ⟨(List.range k).map σ, List.nodup_range.map hred.position_injective, by simp, ?_, ?_, ?_⟩
    · simpa using hin
    · intro y hy j hj
      refine ((hred.picked_iff 0 y 0).mpr (fun i hi => ?_) j hj).trans (gfMul_zero_left _)
      rw [gfMul_zero_left]
      exact hy _ (List.mem_map_of_mem (List.mem_map_of_mem (List.mem_range.mpr hi)))
    · intro x hx q hq
      obtain ⟨i, hi, rfl⟩ := List.mem_map.mp hx
      have hi' := List.mem_range.mp hi
      have hrow := (hred.picked_iff 1 (fun j => d j q) q).mp (fun i _ => (one_gfMul _).symm) i hi'
      rw [one_gfMul, symbol_e (hin i hi') hq] at hrow
      exact (dot_congr (fun _ _ => rfl) fun j hj => solution_entry hj hq).trans hrow
  next => contradiction

theorem solveInOrder_isSome {l t : Nat} {rows : List (List Byte × List Byte)} :
    (solveInOrder l t rows).isSome = true ↔ FullRank l rows := by
  constructor
  · intro h
    obtain ⟨sol, hsol⟩ := Option.isSome_iff_exists.mp h
    obtain ⟨set, hset⟩ := solveInOrder_solvesSubset hsol
    refine hset.fullRank.mono fun row hrow => ?_
    obtain ⟨k, hk, rfl⟩ := List.mem_map.mp hrow
    rw [List.getD_eq_getElem _ _ (hset.inRange k hk)]
    exact List.getElem_mem _
  · intro h
    obtain ⟨k, a, d, σ, hred, hsol⟩ := solveInOrder_reducesTo l t rows
    have hk : k = l := by
      by_contra hne
      obtain ⟨y, ⟨j, hj, hy⟩, hnull⟩ := hred.exists_null (by have := hred.rank_le_columns; omega) le_rfl
      exact hy (fullRank_iff.mp h y hnull j hj)
    rw [hsol, if_pos hk]
    rfl

/-! The other orders (log 5). -/

/-- `reorder` lists every position once. -/
theorem reorder_eq (rows : List (List Byte × List Byte)) (order : List Nat) : ∃ ks : List Nat,
    ks.Perm (List.range rows.length) ∧ reorder rows order = ks.map fun k => rows.getD k ([], []) := by
  refine ⟨_, ?_, rfl⟩
  generalize hfirst : (order.filter fun k => decide (k < rows.length)).dedup = first
  have hnodup : first.Nodup := hfirst ▸ List.nodup_dedup _
  have hmem : ∀ k ∈ first, k < rows.length := fun k hk => by
    rw [← hfirst, List.mem_dedup, List.mem_filter, decide_eq_true_eq] at hk
    exact hk.2
  refine (List.perm_ext_iff_of_nodup ?_ List.nodup_range).mpr fun k => ?_
  · refine List.Nodup.append hnodup (List.nodup_range.filter _) fun k hk hk' => ?_
    simp [hk] at hk'
  · by_cases hk : k ∈ first <;> simp [hk, hmem]

theorem getD_map_getD {rows : List (List Byte × List Byte)} {ks : List Nat} {i : Nat} (hi : i < ks.length) :
    (ks.map fun k => rows.getD k ([], [])).getD i ([], []) = rows.getD (ks.getD i 0) ([], []) := by
  rw [List.getD_eq_getElem _ _ (by simpa using hi), List.getElem_map, List.getD_eq_getElem _ _ hi]

/-- L rows of the reordered list are L rows of the list. -/
theorem SolvesSubset.of_reorder {l t : Nat} {rows : List (List Byte × List Byte)} {order : List Nat}
    {sol : List (List Byte)} {set : List Nat} (h : SolvesSubset l t (reorder rows order) sol set) :
    ∃ set', SolvesSubset l t rows sol set' := by
  obtain ⟨ks, hperm, hks⟩ := reorder_eq rows order
  obtain ⟨hnodup, hlen, hin, hfull, hholds⟩ := h
  rw [hks] at hin hfull hholds
  rw [List.length_map] at hin
  have hat (k : Nat) (hk : k ∈ set) := getD_map_getD (rows := rows) (hin k hk)
  refine ⟨set.map fun k => ks.getD k 0, ?_, by simpa using hlen, ?_, ?_, ?_⟩
  · refine List.Nodup.map_on (fun x hx y hy hxy => ?_) hnodup
    rw [List.getD_eq_getElem _ _ (hin x hx), List.getD_eq_getElem _ _ (hin y hy)] at hxy
    exact (hperm.nodup_iff.mpr List.nodup_range).getElem_inj_iff.mp hxy
  · intro x hx
    obtain ⟨k, hk, rfl⟩ := List.mem_map.mp hx
    rw [List.getD_eq_getElem _ _ (hin k hk)]
    exact List.mem_range.mp (hperm.mem_iff.mp (List.getElem_mem _))
  · rw [List.map_map]
    rwa [List.map_congr_left hat] at hfull
  · intro x hx
    obtain ⟨k, hk, rfl⟩ := List.mem_map.mp hx
    exact hat k hk ▸ hholds k hk

theorem solveRows_solvesSubset {l t : Nat} {rows : List (List Byte × List Byte)} {sol : List (List Byte)}
    (h : solveRows l t rows = some sol) : ∃ set, SolvesSubset l t rows sol set := by
  unfold solveRows at h
  split at h
  · contradiction
  next first hfirst =>
    split at h
    · cases h
      exact solveInOrder_solvesSubset hfirst
    · cases hre : solveInOrder l t (reorder rows (Config.freeRowOrder l t rows)) with
      | none =>
        rw [hre] at h
        cases h
        exact solveInOrder_solvesSubset hfirst
      | some sol' =>
        rw [hre] at h
        cases h
        obtain ⟨set, hset⟩ := solveInOrder_solvesSubset hre
        exact hset.of_reorder

theorem solveRows_isSome {l t : Nat} {rows : List (List Byte × List Byte)} :
    (solveRows l t rows).isSome = true ↔ FullRank l rows := by
  rw [← solveInOrder_isSome (t := t), solveRows]
  cases solveInOrder l t rows with
  | none => exact Iff.rfl
  | some sol => exact iff_of_true (by dsimp only; split <;> rfl) rfl

/-- Rank L takes L rows. -/
theorem FullRank.le_length {l : Nat} {rows : List (List Byte × List Byte)} (h : FullRank l rows) :
    l ≤ rows.length := by
  obtain ⟨k, a, d, σ, hred, hsol⟩ := solveInOrder_reducesTo l 0 rows
  have hsome := solveInOrder_isSome (t := 0).mpr h
  rw [hsol] at hsome
  split at hsome
  next hk => exact hk ▸ hred.rank_le
  next => contradiction

/-- Consistent rows: the answer is their X, element for element (R333(a)). -/
theorem SolvesSubset.eq_of_consistent {l t : Nat} {rows : List (List Byte × List Byte)} {sol : List (List Byte)}
    {set : List Nat} (h : SolvesSubset l t rows sol set) {x : Nat → Nat → Byte}
    (hx : ∀ row ∈ rows, RowHolds l t row x) (hshape : sol.length = l ∧ ∀ r ∈ sol, r.length = t) :
    sol = (List.range l).map fun j => (List.range t).map fun q => x j q := by
  obtain ⟨hlen, hrows⟩ := hshape
  refine List.ext_getElem (by simp [hlen]) fun j hj _ => ?_
  have hrow := hrows _ (List.getElem_mem hj)
  refine List.ext_getElem (by simp [hrow]) fun q hq _ => ?_
  rw [hrow] at hq
  have huniq := h.fullRank.unique (x := fun j q => vecAt (sol.getD j []) q) (x' := x)
    (List.forall_mem_map.mpr h.holds) (List.forall_mem_map.mpr fun k hk => ?_) (hlen ▸ hj) hq
  · simpa [vecAt, hj, hrow, hq] using huniq
  · rw [List.getD_eq_getElem _ _ (h.inRange k hk)]
    exact hx _ (List.getElem_mem _)

end Sys2Proof.Machine
end

section
/-! PROOFS. The solver commands (47_solver.md): what each does in the states that accept it (R331, R340 to R353), the
order of the checks, and the answer of `SVRUN` (R333 to R335). -/

namespace Sys2Proof.Machine

/-- A command that writes the solver only completes. -/
theorem completes_sv {i : Instr} {s : State} {sv : Solver} {post : State → Prop} {r : Result}
    (h : exec i s = finish s r) (hr : r = .ok { s with sv := sv }) (hp : post (retire { s with sv := sv })) :
    Completes i [.sv] post s := by
  have hf : Frame [.sv] s { s with sv := sv } := by
    constructor <;> simp <;> intros <;> rfl
  exact ⟨_, h.trans (congrArg (finish s) hr), ⟨rfl, rfl, rfl⟩, hf.retire, hp⟩

/-! Which states accept what (R331). -/

theorem acceptsRows_iff (q : SvState) : q.acceptsRows = true ↔ q = .collecting ∨ q = .failed := by
  cases q <;> decide

theorem acceptsRun_iff (q : SvState) : q.acceptsRun = true ↔ q = .collecting ∨ q = .solved ∨ q = .failed := by
  cases q <;> decide

/-! Adding rows (R341, R342). -/

/-- The rows of a canonical matrix are its elements. -/
theorem rows_eq_elems {m : ByteMatrix} (h : m.wf = true) : (List.range m.rows).map m.row = m.elems :=
  congrArg ByteMatrix.elems (newMatrix_self m h)

theorem zip_rows {m o : ByteMatrix} (hm : m.wf = true) (ho : o.wf = true) (hrows : m.rows = o.rows) :
    (List.range m.rows).map (fun k => (m.row k, o.row k)) = m.elems.zip o.elems := by
  rw [← rows_eq_elems hm, ← rows_eq_elems ho, ← hrows, List.zip_map']

/-- Settles O53: in a state that accepts it each command passes its checks. -/
theorem solverCommandsComplete : Obligations.SolverCommandsComplete := by
  unfold Obligations.SolverCommandsComplete
  intro s x y a b k h
  refine ⟨fun hx hx' hy hy' => ?_, fun hstate => ⟨fun r q hr hq hl ht hn => ?_,
    fun m o hm ho hmwf howf hl ht hrows hn => ?_⟩, fun hstate => ?_, ?_, ?_, ?_⟩
  · exact completes_sv rfl (require_pos ⟨hx, hx', hy, hy'⟩ _ _) rfl
  · have haccept := (acceptsRows_iff _).mpr hstate
    refine completes_sv (sv := { s.sv with state := .collecting, rows := s.sv.rows ++ [(r, q)] }) rfl ?_ rfl
    rw [haccept, require_true, withV_some hr, withV_some hq, require_pos ⟨hl, ht⟩]
    exact require_pos hn _ _
  · have haccept := (acceptsRows_iff _).mpr hstate
    refine completes_sv (sv := { s.sv with state := .collecting, rows := s.sv.rows ++ m.elems.zip o.elems }) rfl ?_ rfl
    rw [haccept, require_true, withM_some hm, withM_some ho, require_pos ⟨hl, ht, hrows⟩,
      zip_rows hmwf howf hrows]
    exact require_pos hn _ _
  · refine completes_matrix rfl ?_ fun _ _ _ _ => rfl
    rw [hstate, beq_self_eq_true, require_true]
  · refine completes_word rfl rfl ?_
    cases s.sv.state <;> rfl
  · exact completes_word rfl rfl rfl
  · exact completes_sv rfl rfl rfl

/-! `SVRUN` (R343). -/

theorem exec_svrun_of_not_accepts {s : State} (h : s.sv.state.acceptsRun = false) :
    exec .svrun s = finish s (.error .illegalState) :=
  congrArg (finish s) (congrArg (require · _ _) h)

theorem exec_svrun_of_accepts {s : State} (h : s.sv.state.acceptsRun = true) : exec .svrun s = finish s
    (match solveRows s.sv.l.toNat s.sv.t.toNat s.sv.rows with
      | none => .error .insufficientSymbols
      | some sol => .ok { s with sv := { s.sv with state := .solved, sol := sol } }) := by
  refine congrArg (finish s) ((congrArg (require · _ _) h).trans ?_)
  rw [require_true]
  by_cases hn : s.sv.l.toNat ≤ s.sv.n
  · exact require_pos hn _ _
  · have hnone : solveRows s.sv.l.toNat s.sv.t.toNat s.sv.rows = none := by
      by_contra hne
      exact hn (solveRows_isSome.mp (Option.isSome_iff_ne_none.mpr hne)).le_length
    rw [require_neg hn, hnone]

theorem svrun_faults {s : State} (h : s.sv.state.acceptsRun = true)
    (hnone : solveRows s.sv.l.toNat s.sv.t.toNat s.sv.rows = none) : Faults .svrun .insufficientSymbols s :=
  faults_of_result (exec_svrun_of_accepts h) (by rw [hnone])

theorem exec_svrun_some {s : State} (h : s.sv.state.acceptsRun = true) {sol : List (List Byte)}
    (hsol : solveRows s.sv.l.toNat s.sv.t.toNat s.sv.rows = some sol) :
    exec .svrun s = finish s (.ok { s with sv := { s.sv with state := .solved, sol := sol } }) := by
  rw [exec_svrun_of_accepts h, hsol]

/-- A run that ends in `Solved` ends with what `solveRows` computed. -/
theorem svrun_solved {s t : State} (h : exec .svrun s = .next t) (hsolved : t.sv.state = .solved) :
    solveRows s.sv.l.toNat s.sv.t.toNat s.sv.rows = some t.sv.sol := by
  cases haccept : s.sv.state.acceptsRun with
  | false =>
    obtain rfl := Host.Outcome.next.inj ((exec_svrun_of_not_accepts haccept).symm.trans h)
    rw [show s.sv.state = .solved from hsolved] at haccept
    contradiction
  | true =>
    cases hsol : solveRows s.sv.l.toNat s.sv.t.toNat s.sv.rows with
    | none =>
      have hexec := exec_svrun_of_accepts haccept
      rw [hsol] at hexec
      obtain rfl := Host.Outcome.next.inj (hexec.symm.trans h)
      contradiction
    | some sol =>
      obtain rfl := Host.Outcome.next.inj ((exec_svrun_some haccept hsol).symm.trans h)
      rfl

/-- Settles O55: `solveRows` answers exactly at rank L, which takes L rows. -/
theorem svrunSolvesExactlyFullRank : Obligations.SvrunSolvesExactlyFullRank := by
  unfold Obligations.SvrunSolvesExactlyFullRank
  intro s hstate
  have haccept := (acceptsRun_iff _).mpr hstate
  refine ⟨fun ⟨_, hrank⟩ => ?_, fun hnot => svrun_faults haccept ?_⟩
  · obtain ⟨sol, hsol⟩ := Option.isSome_iff_exists.mp (solveRows_isSome (t := s.sv.t.toNat).mpr hrank)
    exact completes_sv (exec_svrun_some haccept hsol) rfl ⟨rfl, rfl, rfl, rfl, solveRows_shape hsol⟩
  · by_contra hne
    have hrank := solveRows_isSome.mp (Option.isSome_iff_ne_none.mpr hne)
    exact hnot ⟨hrank.le_length, hrank⟩

/-- Settles O56: the answer solves L independent rows, and on consistent rows only X does. -/
theorem svrunNeverWrong : Obligations.SvrunNeverWrong := by
  unfold Obligations.SvrunNeverWrong
  intro s x hstate hx
  have haccept := (acceptsRun_iff _).mpr hstate
  cases hsol : solveRows s.sv.l.toNat s.sv.t.toNat s.sv.rows with
  | none => exact .inl (svrun_faults haccept hsol)
  | some sol =>
    obtain ⟨set, hset⟩ := solveRows_solvesSubset hsol
    exact .inr (completes_sv (exec_svrun_some haccept hsol) rfl
      ⟨rfl, hset.eq_of_consistent hx (solveRows_shape hsol)⟩)

/-- Settles O57: the pivot rows of the elimination, in whatever order the rows were offered. -/
theorem svrunSatisfiesAnInvertibleSubset : Obligations.SvrunSatisfiesAnInvertibleSubset := by
  unfold Obligations.SvrunSatisfiesAnInvertibleSubset
  intro s t h hsolved
  obtain ⟨set, hnodup, hlen, hin, hfull, hholds⟩ := solveRows_solvesSubset (svrun_solved h hsolved)
  exact ⟨set, hnodup, hlen, hin, hfull, hholds⟩

/-- Settles O58: `solveRows` is a function, the invariant has kept its result, and more rows keep the rank. -/
theorem svrunDeterministicAndMonotone : Obligations.SvrunDeterministicAndMonotone := by
  unfold Obligations.SvrunDeterministicAndMonotone
  refine ⟨fun s s' t t' hl ht hrows h h' hsolved hsolved' => ?_, fun s t hinv hstate h => ?_,
    fun l t rows more h => ?_⟩
  · have hs := svrun_solved h hsolved
    rw [hl, ht, hrows] at hs
    exact Option.some.inj (hs.symm.trans (svrun_solved h' hsolved'))
  · have hexec := exec_svrun_some ((acceptsRun_iff _).mpr (.inr (.inl hstate))) (hinv.solution hstate)
    obtain rfl := Host.Outcome.next.inj (hexec.symm.trans h)
    exact congrArg (fun q => { s.sv with state := q }) hstate.symm
  · exact solveRows_isSome.mpr ((solveRows_isSome.mp h).mono (List.subset_append_left ..))

/-- Settles O54: the state first, then slots, shapes and capacity, as R376 orders them. -/
theorem solverFaultsInOrder : Obligations.SolverFaultsInOrder := by
  unfold Obligations.SolverFaultsInOrder
  intro s x y a b k h
  refine ⟨fun hsize => ?_, fun hstate => ?_, fun hstate => ?_, fun hstate => ?_, fun hstate => ?_,
    fun hstate hn => ?_⟩
  · refine faults_of_result rfl (require_neg ?_ _ _)
    omega
  · have hrefuse : s.sv.state.acceptsRows = false := by
      obtain h | h := hstate <;> rw [h] <;> rfl
    exact ⟨faults_of_result rfl (congrArg (require · _ _) hrefuse),
      faults_of_result rfl (congrArg (require · _ _) hrefuse)⟩
  · exact faults_of_error (exec_svrun_of_not_accepts (by rw [hstate]; rfl))
  · have hrefuse : (s.sv.state == .solved) = false := by
      obtain h | h | h := hstate <;> rw [h] <;> rfl
    exact faults_of_result rfl (congrArg (require · _ _) hrefuse)
  · have haccept := (acceptsRows_iff _).mpr hstate
    have hrow {r : Result} : require s.sv.state.acceptsRows .illegalState r = r := by rw [haccept, require_true]
    refine ⟨fun hnone => faults_of_result rfl (hrow.trans ?_), fun hnone => faults_of_result rfl (hrow.trans ?_),
      fun r q hr hq => ⟨fun hbad => faults_of_result rfl (hrow.trans ?_),
        fun hl ht hcap => faults_of_result rfl (hrow.trans ?_)⟩,
      fun m o hm ho => ⟨fun hbad => faults_of_result rfl (hrow.trans ?_),
        fun hl ht hrows hcap => faults_of_result rfl (hrow.trans ?_)⟩⟩
    · obtain hk | hh := hnone
      · exact withV_none hk _
      · exact withV_unallocated fun _ => withV_none hh _
    · obtain ha | hb := hnone
      · exact withM_none ha _
      · exact withM_unallocated fun _ => withM_none hb _
    · rw [withV_some hr, withV_some hq, require_neg (by omega)]
    · rw [withV_some hr, withV_some hq, require_pos ⟨hl, ht⟩]
      exact require_neg (Nat.not_le.mpr hcap) _ _
    · rw [withM_some hm, withM_some ho, require_neg (by omega)]
    · rw [withM_some hm, withM_some ho, require_pos ⟨hl, ht, hrows⟩]
      exact require_neg (Nat.not_le.mpr hcap) _ _
  · have hnone : solveRows s.sv.l.toNat s.sv.t.toNat s.sv.rows = none := by
      by_contra hne
      exact Nat.not_le.mpr hn (solveRows_isSome.mp (Option.isSome_iff_ne_none.mpr hne)).le_length
    exact svrun_faults ((acceptsRun_iff _).mpr hstate) hnone

end Sys2Proof.Machine
end

section
/-! PROOFS. Representation tags change nothing (10_state.md R26): a command other than `MREPR`, run on a state and on
the state without its tags, ends the same way up to tags, and so does every host access. -/

namespace Sys2Proof.Machine

/-! Tags forgotten, on each part of the state. -/

/-- The matrix as `DENSE_ROW`. -/
def ByteMatrix.untagged (m : ByteMatrix) : ByteMatrix := { m with repr := .denseRow }

/-- The system with its matrices as `DENSE_ROW`. -/
def Augmented.untagged (t : Augmented) : Augmented := { t with a := t.a.untagged, d := t.d.map ByteMatrix.untagged }

/-- The result with its tags forgotten. -/
def untag (r : Result) : Result := r.map State.untagged

theorem optionMap_untagged_untagged (o : Option ByteMatrix) :
    (o.map ByteMatrix.untagged).map ByteMatrix.untagged = o.map ByteMatrix.untagged := by
  cases o <;> rfl

theorem State.untagged_untagged (s : State) : s.untagged.untagged = s.untagged := by
  have hm : s.untagged.untagged.m = s.untagged.m := by
    refine Vector.ext fun k hk => ?_
    simp only [State.untagged, Vector.getElem_map]
    exact optionMap_untagged_untagged _
  exact congrArg (fun m => { s with m := m }) hm

theorem State.getM_untagged (s : State) (k : MSlot) : s.untagged.getM k = (s.getM k).map ByteMatrix.untagged :=
  Vector.getElem_map ..

theorem State.untagged_setX (s : State) (d : XReg) (w : Word) : (s.setX d w).untagged = s.untagged.setX d w := by
  unfold State.setX
  split <;> rfl

theorem State.untagged_setM (s : State) (k : MSlot) (o : Option ByteMatrix) :
    (s.setM k o).untagged = s.untagged.setM k (o.map ByteMatrix.untagged) := by
  have hm : (s.setM k o).untagged.m = (s.untagged.setM k (o.map ByteMatrix.untagged)).m :=
    Vector.map_set (h := k.isLt)
  exact congrArg (fun m => { s with m := m }) hm

theorem State.untagged_putContext (s : State) (t : Augmented) :
    (s.putContext t).untagged = s.untagged.putContext t.untagged := by
  obtain ⟨a, d, pr, pc⟩ := t
  have hset := State.untagged_setM
  have hsetP (s : State) (k : PSlot) (o : Option (List Word)) : (s.setP k o).untagged = s.untagged.setP k o := rfl
  cases d <;> cases pr <;> cases pc <;> simp only [State.putContext, hset, hsetP] <;> rfl

/-! Matrix operations read no tag. -/

theorem ByteMatrix.untagged_rows (m : ByteMatrix) : m.untagged.rows = m.rows := rfl

theorem ByteMatrix.untagged_e (m : ByteMatrix) : m.untagged.e = m.e := rfl

theorem Augmented.untagged_a (t : Augmented) : t.untagged.a = t.a.untagged := rfl

theorem powBits_untagged (rep : MRepr) (m : ByteMatrix) (bits n : Nat) :
    (ByteMatrix.powBits rep m bits n).untagged = ByteMatrix.powBits .denseRow m.untagged bits n := by
  induction bits generalizing n with
  | zero => rfl
  | succ bits ih =>
    unfold ByteMatrix.powBits
    split
    · rfl
    · rw [← ih (n / 2)]
      dsimp only
      split <;> rfl

theorem Augmented.untagged_swapRows (i j : Nat) (t : Augmented) :
    (t.swapRows i j).untagged = t.untagged.swapRows i j := by
  obtain ⟨a, _ | d, pr, pc⟩ := t <;> rfl

theorem Augmented.untagged_scaleRow (r : Nat) (β : Byte) (t : Augmented) :
    (t.scaleRow r β).untagged = t.untagged.scaleRow r β := by
  obtain ⟨a, _ | d, pr, pc⟩ := t <;> rfl

theorem Augmented.untagged_axpyRows (r : Nat) (f : Nat → Byte) (t : Augmented) :
    (t.axpyRows r f).untagged = t.untagged.axpyRows r f := by
  obtain ⟨a, _ | d, pr, pc⟩ := t <;> rfl

theorem Augmented.untagged_swapCols (i j : Nat) (t : Augmented) :
    (t.swapCols i j).untagged = t.untagged.swapCols i j := rfl

theorem Augmented.untagged_untagged (t : Augmented) : t.untagged.untagged = t.untagged := by
  obtain ⟨a, _ | d, pr, pc⟩ := t <;> rfl

theorem reduceColumn_untagged (base : Nat) (t : Augmented) (k c : Nat) : reduceColumn base (t.untagged, k) c =
    ((reduceColumn base (t, k) c).1.untagged, (reduceColumn base (t, k) c).2) := by
  cases hleast : leastIn k t.a.rows (fun i => t.a.e i c != 0) with
  | none =>
    have huntagged : leastIn k t.untagged.a.rows (fun i => t.untagged.a.e i c != 0) = none := by
      rw [Augmented.untagged_a, ByteMatrix.untagged_rows, ByteMatrix.untagged_e, hleast]
    rw [reduceColumn_none (st := (t, k)) hleast, reduceColumn_none (st := (t.untagged, k)) huntagged]
  | some r =>
    simp only [reduceColumn, ← Augmented.untagged_swapRows, ← Augmented.untagged_scaleRow, Augmented.untagged_a,
      ByteMatrix.untagged_e, ByteMatrix.untagged_rows, ← Augmented.untagged_axpyRows, hleast]

theorem gaussJordan_untagged (base : Nat) (cols : List Nat) (t : Augmented) : gaussJordan base cols t.untagged =
    ((gaussJordan base cols t).1.untagged, (gaussJordan base cols t).2) := by
  suffices h : ∀ st : Augmented × Nat, cols.foldl (reduceColumn base) (st.1.untagged, st.2) =
      ((cols.foldl (reduceColumn base) st).1.untagged, (cols.foldl (reduceColumn base) st).2) from h (t, base)
  induction cols with
  | nil => exact fun _ => rfl
  | cons c cols ih =>
    intro st
    rw [List.foldl_cons, List.foldl_cons, reduceColumn_untagged]
    exact ih _

/-! One rule for each check: the runs make the same decision. -/

section
variable {s : State}

theorem untag_ok {t t' : State} (h : t.untagged = t'.untagged) : untag (.ok t) = untag (.ok t') := congrArg Except.ok h

theorem untag_require {h h' : Bool} {c : Cause} {k k' : Result} (hk : untag k = untag k')
    (hh : h = h' := by rfl) : untag (require h c k) = untag (require h' c k') := by
  subst hh
  cases h with
  | true => exact hk
  | false => rfl

theorem untag_withM {a : MSlot} {f f' : ByteMatrix → Result} (h : ∀ m, untag (f m) = untag (f' m.untagged)) :
    untag (withM s a f) = untag (withM s.untagged a f') := by
  cases ha : s.getM a with
  | none => rw [withM_none ha, withM_none (by rw [State.getM_untagged, ha]; rfl)]
  | some m => rw [withM_some ha, withM_some (by rw [State.getM_untagged, ha]; rfl)]; exact h m

theorem untag_withV {a : VSlot} {f f' : List Byte → Result} (h : ∀ v, untag (f v) = untag (f' v)) :
    untag (withV s a f) = untag (withV s.untagged a f') := by
  cases ha : s.getV a with
  | none => rw [withV_none ha, withV_none (s := s.untagged) ha]
  | some v => rw [withV_some ha, withV_some (s := s.untagged) ha]; exact h v

theorem untag_withP {a : PSlot} {f f' : List Word → Result} (h : ∀ p, untag (f p) = untag (f' p)) :
    untag (withP s a f) = untag (withP s.untagged a f') := by
  cases ha : s.getP a with
  | none => rw [withP_none ha, withP_none (s := s.untagged) ha]
  | some p => rw [withP_some ha, withP_some (s := s.untagged) ha]; exact h p

theorem untag_withParts {g : GeContext} {f f' : Augmented → Result}
    (h : ∀ t, untag (f t) = untag (f' t.untagged)) :
    untag (withParts s g f) = untag (withParts s.untagged g f') := by
  have withOptM {has : Bool} {k : MSlot} {f f' : Option ByteMatrix → Result}
      (h : ∀ o, untag (f o) = untag (f' (o.map ByteMatrix.untagged))) :
      untag (withOptM s has k f) = untag (withOptM s.untagged has k f') := by
    cases has with
    | false => exact h none
    | true => exact untag_withM fun m => h (some m)
  have withOptP {has : Bool} {k : PSlot} {f f' : Option (List Word) → Result} (h : ∀ o, untag (f o) = untag (f' o)) :
      untag (withOptP s has k f) = untag (withOptP s.untagged has k f') := by
    cases has with
    | false => exact h none
    | true => exact untag_withP fun p => h (some p)
  exact untag_withM fun a => withOptM fun d => withOptP fun pr => withOptP fun pc =>
    untag_require (untag_require (untag_require (h ⟨a, d, pr, pc⟩))) (by cases d <;> rfl)

theorem untag_withContext {f f' : Augmented → Result} (h : ∀ t, untag (f t) = untag (f' t.untagged)) :
    untag (withContext s f) = untag (withContext s.untagged f') :=
  untag_require (untag_withParts h)

/-! One rule for each write. -/

theorem untag_setX (d : XReg) (w : Word) : untag (.ok (s.setX d w)) = untag (.ok (s.untagged.setX d w)) := by
  refine untag_ok ?_
  rw [State.untagged_setX, State.untagged_setX, State.untagged_untagged]

theorem untag_setM (d : MSlot) {o o' : Option ByteMatrix}
    (h : o.map ByteMatrix.untagged = o'.map ByteMatrix.untagged) :
    untag (.ok (s.setM d o)) = untag (.ok (s.untagged.setM d o')) := by
  refine untag_ok ?_
  rw [State.untagged_setM, State.untagged_setM, State.untagged_untagged, h]

/-- The same matrix but for its tag. -/
theorem untag_newMatrix (d : MSlot) (r c : Nat) (rep rep' : MRepr) (f : Nat → Nat → Byte) :
    untag (.ok (s.setM d (some (newMatrix r c rep f)))) =
      untag (.ok (s.untagged.setM d (some (newMatrix r c rep' f)))) := untag_setM d rfl

theorem untag_setV (d : VSlot) (o : Option (List Byte)) :
    untag (.ok (s.setV d o)) = untag (.ok (s.untagged.setV d o)) :=
  untag_ok (congrArg (State.setV · d o) s.untagged_untagged.symm)

theorem untag_setP (d : PSlot) (o : Option (List Word)) :
    untag (.ok (s.setP d o)) = untag (.ok (s.untagged.setP d o)) :=
  untag_ok (congrArg (State.setP · d o) s.untagged_untagged.symm)

theorem untag_ge (g : GeContext) : untag (.ok { s with ge := g }) = untag (.ok { s.untagged with ge := g }) :=
  untag_ok (congrArg (fun t : State => { t with ge := g }) s.untagged_untagged.symm)

theorem untag_sv (sv : Solver) : untag (.ok { s with sv := sv }) = untag (.ok { s.untagged with sv := sv }) :=
  untag_ok (congrArg (fun t : State => { t with sv := sv }) s.untagged_untagged.symm)

/-- An operation on the system that reads no tag, written back. -/
theorem untag_putContext {op : Augmented → Augmented} (h : ∀ t, (op t).untagged = op t.untagged) (t : Augmented) :
    untag (.ok (s.putContext (op t))) = untag (.ok (s.untagged.putContext (op t.untagged))) := by
  refine untag_ok ?_
  rw [State.untagged_putContext, State.untagged_putContext, State.untagged_untagged, h, h, t.untagged_untagged]

/-- `GERREF`'s writes. -/
theorem untag_gaussJordan (d : XReg) (cols : List Nat) (t : Augmented) :
    untag (.ok ((s.putContext (gaussJordan 0 cols t).1).setX d (countWord (gaussJordan 0 cols t).2))) =
      untag (.ok ((s.untagged.putContext (gaussJordan 0 cols t.untagged).1).setX d
        (countWord (gaussJordan 0 cols t.untagged).2))) := by
  rw [gaussJordan_untagged]
  refine untag_ok ?_
  rw [State.untagged_setX, State.untagged_setX, State.untagged_putContext, State.untagged_putContext,
    State.untagged_untagged, Augmented.untagged_untagged]

end

end Sys2Proof.Machine
end

section
/-! PROOFS. The commands and the host's accesses, without tags (10_state.md R26). -/

namespace Sys2Proof.Machine

/-! The shared forms. -/

section
variable {s : State}

theorem untag_writeElement (d : XReg) (r : Except Cause Byte) :
    untag (writeElement s d r) = untag (writeElement s.untagged d r) := by
  cases r with
  | ok b => exact untag_setX d _
  | error c => rfl

theorem untag_vectorBinary (f : Byte → Byte → Byte) (d b c : VSlot) :
    untag (vectorBinary f d b c s) = untag (vectorBinary f d b c s.untagged) :=
  untag_withV fun _ => untag_withV fun _ => untag_require (untag_setV d _)

theorem untag_matrixBinary (f : Byte → Byte → Byte) (d b c : MSlot) (rep : ReprCode) :
    untag (matrixBinary f d b c rep s) = untag (matrixBinary f d b c rep s.untagged) :=
  untag_withM fun _ => untag_withM fun _ => untag_require (untag_newMatrix d _ _ _ _ _)

theorem untag_sliceInto (d b : MSlot) {r0 c0 r1 c1 : ByteMatrix → Nat} (h : ∀ m, r1 m.untagged = r1 m)
    (h' : ∀ m, c1 m.untagged = c1 m) (h0 : ∀ m, r0 m.untagged = r0 m) (h0' : ∀ m, c0 m.untagged = c0 m) :
    untag (sliceInto d b r0 c0 r1 c1 s) = untag (sliceInto d b r0 c0 r1 c1 s.untagged) := by
  refine untag_withM fun m => ?_
  rw [h, h', h0, h0']
  exact untag_require (untag_newMatrix d _ _ _ _ _)

theorem untag_readRect (d : XReg) (b : MSlot) (r0 c0 r1 c1 : XReg) (f : List Byte → Word) :
    untag (readRect d b r0 c0 r1 c1 f s) = untag (readRect d b r0 c0 r1 c1 f s.untagged) :=
  untag_withM fun _ => untag_require (untag_setX d _)

theorem untag_updateRect (op : Byte → Byte → Byte) (nz : Bool) (a : MSlot) (b r0 c0 r1 c1 : XReg) :
    untag (updateRect op nz a b r0 c0 r1 c1 s) = untag (updateRect op nz a b r0 c0 r1 c1 s.untagged) :=
  untag_withM fun _ => untag_require (untag_newMatrix a _ _ _ _ _)

end

theorem untag_powBits {s : State} (d : MSlot) (m : ByteMatrix) (rep rep' : MRepr) (n : Nat) :
    untag (.ok (s.setM d (some (ByteMatrix.powBits rep m 32 n)))) =
      untag (.ok (s.untagged.setM d (some (ByteMatrix.powBits rep' m.untagged 32 n)))) :=
  untag_setM d (congrArg some
    ((powBits_untagged rep m 32 n).trans (powBits_untagged rep' m.untagged 32 n).symm))

/-- Run with and without tags, every command but `MREPR` finishes with the same result up to tags. -/
theorem exec_untag (i : Instr) (hi : ∀ d k, i ≠ .mrepr d k) (s : State) :
    ∃ r r', exec i s = finish s r ∧ exec i s.untagged = finish s.untagged r' ∧ untag r = untag r' := by
  cases i with
  -- System and scalar-register commands
  | nop => exact ⟨_, _, rfl, rfl, untag_ok s.untagged_untagged.symm⟩
  | signal =>
    exact ⟨_, _, rfl, rfl, untag_ok (congrArg (fun t : State => { t with status := { s.status with signal := true } })
      s.untagged_untagged.symm)⟩
  | xli d | xlui d | xaddi d | xmov d | xadd d | xsub d => exact ⟨_, _, rfl, rfl, untag_setX d _⟩
  -- GF(256) commands
  | gadd d | gmul d | gexp d | gpow d => exact ⟨_, _, rfl, rfl, untag_setX d _⟩
  | gdiv d | ginv d => exact ⟨_, _, rfl, rfl, untag_writeElement d _⟩
  | glog d b =>
    refine ⟨_, _, rfl, rfl, ?_⟩
    change untag (match gfLog (s.element b) with | .ok n => _ | .error c => _) =
      untag (match gfLog (s.element b) with | .ok n => _ | .error c => _)
    cases gfLog (s.element b) with
    | ok n => exact untag_setX d _
    | error c => rfl
  -- Byte-vector commands
  | valloc d => exact ⟨_, _, rfl, rfl, untag_require (untag_setV d _)⟩
  | vfree d | vcopy d | vfill d | vadds d | vmuls d => exact ⟨_, _, rfl, rfl, untag_withV fun _ => untag_setV d _⟩
  | vlen d => exact ⟨_, _, rfl, rfl, untag_withV fun _ => untag_setX d _⟩
  | vget d | vnnz d => exact ⟨_, _, rfl, rfl, untag_withV fun _ => untag_require (untag_setX d _)⟩
  | vset d | vswp d | vdivs d | vslice d =>
    exact ⟨_, _, rfl, rfl, untag_withV fun _ => untag_require (untag_setV d _)⟩
  | vadd d | vhad d => exact ⟨_, _, rfl, rfl, untag_vectorBinary _ d _ _⟩
  | vaxpy d => exact ⟨_, _, rfl, rfl, untag_withV fun _ => untag_withV fun _ => untag_require (untag_setV d _)⟩
  | vdot d => exact ⟨_, _, rfl, rfl, untag_withV fun _ => untag_withV fun _ => untag_require (untag_setX d _)⟩
  | vsel d =>
    exact ⟨_, _, rfl, rfl, untag_withV fun _ => untag_withP fun _ => untag_require (untag_require (untag_setV d _))⟩
  -- Index-list commands
  | palloc d => exact ⟨_, _, rfl, rfl, untag_require (untag_setP d _)⟩
  | pfree d | pcopy d => exact ⟨_, _, rfl, rfl, untag_withP fun _ => untag_setP d _⟩
  | plen d => exact ⟨_, _, rfl, rfl, untag_withP fun _ => untag_setX d _⟩
  | pget d => exact ⟨_, _, rfl, rfl, untag_withP fun _ => untag_require (untag_setX d _)⟩
  | pset d | pswp d | pinv d => exact ⟨_, _, rfl, rfl, untag_withP fun _ => untag_require (untag_setP d _)⟩
  -- Matrix store commands
  | malloc d => exact ⟨_, _, rfl, rfl, untag_require (untag_newMatrix d _ _ _ _ _)⟩
  | mfree d => exact ⟨_, _, rfl, rfl, untag_withM fun _ => untag_setM d rfl⟩
  | mrows d | mcols d => exact ⟨_, _, rfl, rfl, untag_withM fun _ => untag_setX d _⟩
  | mrepr d b => exact absurd rfl (hi d b)
  | mget d => exact ⟨_, _, rfl, rfl, untag_withM fun _ => untag_require (untag_setX d _)⟩
  | mset d | mswpr d | mswpc d =>
    exact ⟨_, _, rfl, rfl, untag_withM fun _ => untag_require (untag_newMatrix d _ _ _ _ _)⟩
  | mgetr d | mgetc d => exact ⟨_, _, rfl, rfl, untag_withM fun _ => untag_require (untag_setV d _)⟩
  | msetr d | msetc d =>
    exact ⟨_, _, rfl, rfl, untag_withM fun _ => untag_withV fun _ => untag_require (untag_require
      (untag_newMatrix d _ _ _ _ _))⟩
  | mcopy d | mtrn d | mrot d => exact ⟨_, _, rfl, rfl, untag_withM fun _ => untag_newMatrix d _ _ _ _ _⟩
  | mslice d | msltl d | mslbr d =>
    exact ⟨_, _, rfl, rfl, untag_sliceInto d _ (fun _ => rfl) (fun _ => rfl) (fun _ => rfl) fun _ => rfl⟩
  | msel d =>
    exact ⟨_, _, rfl, rfl, untag_withM fun _ => untag_withP fun _ => untag_withP fun _ =>
      untag_require (untag_require (untag_newMatrix d _ _ _ _ _))⟩
  | mselr d | mselc d =>
    exact ⟨_, _, rfl, rfl, untag_withM fun _ => untag_withP fun _ =>
      untag_require (untag_require (untag_newMatrix d _ _ _ _ _))⟩
  | mnnz d | mfsum d | mfprod d => exact ⟨_, _, rfl, rfl, untag_readRect d _ _ _ _ _ _⟩
  -- Matrix arithmetic commands
  | madd d | mhad d => exact ⟨_, _, rfl, rfl, untag_matrixBinary _ d _ _ _⟩
  | madds d | mmuls d => exact ⟨_, _, rfl, rfl, untag_withM fun _ => untag_newMatrix d _ _ _ _ _⟩
  | mdivs d => exact ⟨_, _, rfl, rfl, untag_withM fun _ => untag_require (untag_newMatrix d _ _ _ _ _)⟩
  | mmul d =>
    exact ⟨_, _, rfl, rfl, untag_withM fun _ => untag_withM fun _ => untag_require (untag_newMatrix d _ _ _ _ _)⟩
  | mpow d => exact ⟨_, _, rfl, rfl, untag_withM fun m => untag_require (untag_powBits d m _ _ _)⟩
  | mmulv d =>
    exact ⟨_, _, rfl, rfl, untag_withM fun _ => untag_withV fun _ => untag_require (untag_setV d _)⟩
  | vmulm d =>
    exact ⟨_, _, rfl, rfl, untag_withV fun _ => untag_withM fun _ => untag_require (untag_setV d _)⟩
  | muset d | muxor d | mumul d | musetnz d | muxornz d | mumulnz d =>
    exact ⟨_, _, rfl, rfl, untag_updateRect _ _ d _ _ _ _ _⟩
  | mis d b prd | mnon d b prd =>
    refine ⟨_, _, rfl, rfl, untag_withM fun m => ?_⟩
    have hpred : predHolds prd m.untagged = predHolds prd m := by cases prd <;> rfl
    rw [hpred]
    exact untag_setX d _
  -- Gaussian-elimination commands
  | gecfg =>
    exact ⟨_, _, rfl, rfl, untag_require (untag_withParts fun _ => untag_require (untag_require (untag_ge _)))⟩
  | geswpr =>
    exact ⟨_, _, rfl, rfl, untag_withContext fun t => untag_require
      (untag_putContext (Augmented.untagged_swapRows _ _) t)⟩
  | geswpc =>
    exact ⟨_, _, rfl, rfl, untag_withContext fun t => untag_require
      (untag_putContext (Augmented.untagged_swapCols _ _) t)⟩
  | gescl =>
    exact ⟨_, _, rfl, rfl, untag_withContext fun t => untag_require
      (untag_putContext (Augmented.untagged_scaleRow _ _) t)⟩
  | geaxpy =>
    exact ⟨_, _, rfl, rfl, untag_withContext fun t => untag_require
      (untag_putContext (Augmented.untagged_axpyRows _ _) t)⟩
  | genorm =>
    exact ⟨_, _, rfl, rfl, untag_withContext fun t => untag_require (untag_require
      (untag_putContext (Augmented.untagged_scaleRow _ _) t))⟩
  | geelim =>
    exact ⟨_, _, rfl, rfl, untag_withContext fun t => untag_require (untag_require
      (untag_putContext (Augmented.untagged_axpyRows _ _) t))⟩
  | gepivf d | gepivm d => exact ⟨_, _, rfl, rfl, untag_withContext fun _ => untag_require (untag_setX d _)⟩
  | gerref d => exact ⟨_, _, rfl, rfl, untag_withContext fun t => untag_gaussJordan d _ t⟩
  -- Solver commands
  | svinit => exact ⟨_, _, rfl, rfl, untag_require (untag_sv _)⟩
  | svaddr =>
    exact ⟨_, _, rfl, rfl, untag_require (untag_withV fun _ => untag_withV fun _ => untag_require (untag_require
      (untag_sv _)))⟩
  | svaddm =>
    exact ⟨_, _, rfl, rfl, untag_require (untag_withM fun _ => untag_withM fun _ => untag_require (untag_require
      (untag_sv _)))⟩
  | svrun =>
    refine ⟨_, _, rfl, rfl, untag_require (untag_require ?_)⟩
    change untag (match solveRows s.sv.l.toNat s.sv.t.toNat s.sv.rows with | none => _ | some sol => _) =
      untag (match solveRows s.sv.l.toNat s.sv.t.toNat s.sv.rows with | none => _ | some sol => _)
    cases solveRows s.sv.l.toNat s.sv.t.toNat s.sv.rows with
    | none => rfl
    | some sol => exact untag_sv _
  | svres d => exact ⟨_, _, rfl, rfl, untag_require (untag_newMatrix d _ _ _ _ _)⟩
  | svstat d | svrows d => exact ⟨_, _, rfl, rfl, untag_setX d _⟩
  | svabort => exact ⟨_, _, rfl, rfl, untag_sv _⟩

/-- How a command ends without tags. -/
theorem finish_untagged {s t : State} {r : Result} (h : finish s r = .next t) :
    finish s.untagged (untag r) = .next t.untagged := by
  cases r with
  | ok u =>
    obtain rfl := Host.Outcome.next.inj h
    rfl
  | error c =>
    obtain rfl := Host.Outcome.next.inj h
    rfl

/-- A command without tags. -/
theorem exec_untagged {i : Instr} (hi : ∀ d k, i ≠ .mrepr d k) {s t : State} (h : exec i s = .next t) :
    ∃ t', exec i s.untagged = .next t' ∧ t'.untagged = t.untagged := by
  obtain ⟨r, r', hr, hr', hrr⟩ := exec_untag i hi s
  obtain ⟨t', ht'⟩ : ∃ t', finish s.untagged r' = .next t' := by
    cases r' <;> exact ⟨_, rfl⟩
  refine ⟨t', hr'.trans ht', ?_⟩
  have hleft := finish_untagged (hr.symm.trans h)
  have hright := finish_untagged ht'
  rw [s.untagged_untagged, ← hrr, hleft] at hright
  exact (Host.Outcome.next.inj hright).symm

end Sys2Proof.Machine
end

section
/-! PROOFS. The host's accesses read no tag (20_memory.md R75), and with the commands tags change nothing (10_state.md
R26). -/

namespace Sys2Proof.Machine

theorem resetBlock_untagged (s : State) : (resetBlock s).untagged = resetBlock s.untagged := by
  have hm : (resetBlock s).untagged.m = (resetBlock s).m := Vector.map_replicate
  exact congrArg (fun m => { resetBlock s with m := m }) hm

/-- What the data window reaches, without its tag. -/
def Selected.untagged : Selected → Selected
  | .matrix m => .matrix m.untagged
  | .vector v => .vector v
  | .indexList p => .indexList p
  | .nothing => .nothing

theorem State.selected_untagged (s : State) : s.untagged.selected = s.selected.untagged := by
  have hkind : ∀ k : Fin 4, k = 0 ∨ k = 1 ∨ k = 2 ∨ k = 3 := by decide
  obtain h | h | h | h := hkind s.dwsel.kind
  · rw [State.selected_matrix (s := s.untagged) h, State.selected_matrix h]
    refine (congrArg (Option.elim · _ _) (s.getM_untagged s.dwsel.slot)).trans ?_
    cases s.getM s.dwsel.slot <;> rfl
  · rw [State.selected_vector (s := s.untagged) h, State.selected_vector h]
    change (s.getV s.dwsel.slot).elim _ _ = _
    cases s.getV s.dwsel.slot <;> rfl
  · rw [State.selected_indexList (s := s.untagged) h, State.selected_indexList h]
    change (s.getP s.dwsel.slot).elim _ _ = _
    cases s.getP s.dwsel.slot <;> rfl
  · rw [State.selected_reserved (s := s.untagged) h, State.selected_reserved h]
    rfl

theorem State.selectedSize_untagged (s : State) : s.untagged.selectedSize = s.selectedSize := by
  unfold State.selectedSize
  rw [State.selected_untagged]
  cases s.selected <;> rfl

theorem readDwData_untagged (s : State) :
    readDwData s.untagged = ((readDwData s).1, (readDwData s).2.untagged) := by
  unfold readDwData
  rw [State.selected_untagged, State.selectedSize_untagged]
  change (if s.busy then _ else if s.dwaddr < s.selectedSize then _ else _) = _
  split
  · rfl
  · split
    · cases s.selected <;> rfl
    · rfl

theorem writeDwData_untagged (w : Word) (s : State) : (writeDwData w s).untagged = writeDwData w s.untagged := by
  unfold writeDwData
  rw [State.selected_untagged, State.selectedSize_untagged]
  change _ = (if s.busy then _ else if s.dwaddr < s.selectedSize then _ else _)
  split
  · rfl
  · split
    · cases s.selected with
      | matrix m => exact congrArg (fun t : State => { t with dwaddr := s.dwaddr + 4 }) (s.untagged_setM _ _)
      | vector | indexList | nothing => rfl
    · rfl

theorem readSvState_untagged (during : Bool) (s : State) :
    readSvState during s.untagged = ((readSvState during s).1, (readSvState during s).2.untagged) := by
  unfold readSvState
  change (if during && s.headIsSvrun then _ else _) = _
  split <;> rfl

theorem readWindow_untagged (off : Nat) (during : Bool) (s : State) :
    readWindow off during s.untagged = ((readWindow off during s).1, (readWindow off during s).2.untagged) := by
  unfold readWindow
  split
  case h_10 => exact readSvState_untagged during s
  case h_18 => exact readDwData_untagged s
  case h_19 =>
    change (if s.busy then _ else (s.untagged.selectedSize, _)) = _
    rw [State.selectedSize_untagged]
    split <;> rfl
  case h_20 =>
    split
    · change (if s.busy then _ else _) = _
      split <;> rfl
    · rfl
  all_goals rfl

theorem writeWindow_untagged (off : Nat) (w : Word) (s : State) :
    (writeWindow off w s).untagged = writeWindow off w s.untagged := by
  unfold writeWindow
  split
  case h_1 =>
    unfold writeCtrl
    split
    · exact resetBlock_untagged s
    · rfl
  case h_3 =>
    unfold push
    change _ = (if s.status.fault || decide (s.params.qDepth ≤ s.qcount) then _ else _)
    split <;> rfl
  case h_6 => exact writeDwData_untagged w s
  case h_7 =>
    change _ = (if s.busy then _ else _)
    split <;> rfl
  case h_8 =>
    split
    · change _ = (if s.busy then _ else _)
      split
      · rfl
      · exact s.untagged_setX _ w
    · rfl
  all_goals rfl

theorem hostAccess_untagged (op : HostOp) (during : Bool) (s : State) :
    (hostAccess op during s).untagged = hostAccess op during s.untagged := by
  cases op with
  | read off bytes =>
    cases hok : accessOk off bytes with
    | true => rw [hostAccess_read_ok hok, hostAccess_read_ok hok, readWindow_untagged]; rfl
    | false => rw [hostAccess_read_busError hok, hostAccess_read_busError hok]; rfl
  | write off bytes w =>
    cases hok : accessOk off bytes with
    | true => rw [hostAccess_write_ok hok, hostAccess_write_ok hok, ← writeWindow_untagged]; rfl
    | false => rw [hostAccess_write_busError hok, hostAccess_write_busError hok]; rfl

/-- Settles O12: two runs that differ in tags are each the run without tags. -/
theorem tagsChangeNothing : Obligations.TagsChangeNothing := by
  unfold Obligations.TagsChangeNothing
  refine ⟨fun i s s' t t' hi hs ht ht' => ?_, fun op during s s' hs => ?_⟩
  · obtain ⟨u, hu, hut⟩ := exec_untagged hi ht
    obtain ⟨u', hu', hut'⟩ := exec_untagged hi ht'
    rw [hs, hu'] at hu
    obtain rfl := Host.Outcome.next.inj hu
    exact hut.symm.trans hut'
  · have h : (hostAccess op during s).untagged = (hostAccess op during s').untagged := by
      rw [hostAccess_untagged, hostAccess_untagged, hs]
    have hresponse := congrArg State.response h
    exact ⟨h, hresponse⟩

end Sys2Proof.Machine
end
